-- ==== Sys2Proof/Word.lean ====
section
/-! DEFINITION. The word types of the block (spec/00_scope.md R7, R13): a data byte, a 16-bit address or
timer value, the 7 stored bits of IFR and IER, and the two packed words of spec/30_encoding.md. -/

namespace Sys2Proof

/-- A data byte: DATA_WIDTH = 8 (R7). -/
abbrev Byte := BitVec 8

/-- A bus address: ADDR_WIDTH = 16 (R7). -/
abbrev Addr := BitVec 16

/-- A 16-bit timer counter or latch (R7). -/
abbrev Count := BitVec 16

/-- The seven stored bits of IFR and IER (R41, R43): bit 0 CA2, 1 CA1, 2 SR, 3 CB2, 4 CB1, 5 T2, 6 T1. -/
abbrev Flags := BitVec 7

/-- A word of format BUS (R91): 25 bits. -/
abbrev BusWord := BitVec 25

/-- A word of format VIAOP (R93): 16 bits. -/
abbrev OpWord := BitVec 16

end Sys2Proof
end

