-- ==== Sys2Proof/Config.lean ====
section
/-! DEFINITION. What a platform fixes before the first tick (spec/00_scope.md R8 to R12), and the free
values, which no rule fixes (spec/93_implementation_defined.md U3). -/

namespace Sys2Proof

/-- The two VIA instances (R24). Both always exist in the state (R8). -/
inductive ViaId where
  | via1
  | via2
deriving DecidableEq, Repr

/-- The two ports of an instance; the port code of VIAOP is 0 = A, 1 = B (R93). -/
inductive Port where
  | a
  | b
deriving DecidableEq, Repr

/-- The class of a page (R23). No fourth class exists (spec/90_conflicts.md C5). -/
inductive PageTag where
  | ram
  | rom
  | mappedIO
deriving DecidableEq, Repr

/-- PT: one tag for each of the 256 pages (R23). -/
abbrev PageTable := Vector PageTag 256

/-- RELAXED_TICK_ADVANCE (R11, R241): how many cycles one dispatch step of the relaxed mode advances. -/
inductive TickAdvance where
  | perTick
  | elapsed
deriving DecidableEq, Repr

/-- The setup-time parameters (R8 to R12), fixed before the first tick; `State.setup` holds them and no
step changes them. PAGE_TABLE and MEM_INIT are the state's own `pt` and `mem`. -/
structure Setup where
  /-- VIA_COUNT (R8); a value outside 1, 2 is a SetupFailure (R263). -/
  viaCount : Nat
  /-- VIA1_BLOCK, in 0..15 (R9). -/
  via1Block : BitVec 4
  /-- VIA2_BLOCK, in 0..15 (R9). -/
  via2Block : BitVec 4
  /-- IO_UNMAPPED_READ (R9). -/
  ioUnmappedRead : Byte
  /-- MAILBOX_CAPACITY (R10); OPEN in the spec. -/
  mailboxCapacity : Nat
  /-- LOCKSTEP (R11). -/
  lockstep : Bool
  /-- RELAXED_TICK_ADVANCE (R11), read only when LOCKSTEP is false. -/
  tickAdvance : TickAdvance
  /-- KBD_ENABLE (R12). -/
  kbdEnable : Bool
  /-- KBD_VIA (R12). -/
  kbdVia : ViaId
  /-- KBD_SELECT_PORT (R12). -/
  kbdSelectPort : Port
  /-- KBD_RETURN_PORT (R12). -/
  kbdReturnPort : Port
  /-- KBD_SELECT_ACTIVE_LOW (R12). -/
  kbdSelectActiveLow : Bool
deriving DecidableEq, Repr

/-- The defaults the spec gives (R8, R9, R11, D22, D25).
DESIGN CHOICE (log 3): MAILBOX_CAPACITY = 1, KBD_VIA = VIA-1 and KBD_SELECT_PORT = A, for which it gives none. -/
def Setup.defaults : Setup where
  viaCount := 2
  via1Block := 0#4
  via2Block := 1#4
  ioUnmappedRead := 0xFF#8
  mailboxCapacity := 1
  lockstep := true
  tickAdvance := .perTick
  kbdEnable := false
  kbdVia := .via1
  kbdSelectPort := .a
  kbdReturnPort := .b
  kbdSelectActiveLow := false

/-- DESIGN CHOICE (log 2): PAGE_TABLE at reset, for which the source gives no default (R23). It is the only
map the source gives, the §8 scenario as R64 reads it: every page RAM, but 0x91 MappedIO and 0xE0 ROM. -/
def PageTable.scenario : PageTable :=
  ((Vector.replicate 256 PageTag.ram).set 0x91 PageTag.mappedIO).set 0xE0 PageTag.rom

/-- Free value (U3, R242): the byte a bus read returns when it overlaps a dispatch of the same instance. -/
opaque Config.freeByte : Nat → Byte

/-- Free value (U3, R242): the flag bits left when an acknowledge overlaps a dispatch of the same instance. -/
opaque Config.freeFlags : Nat → Flags

end Sys2Proof
end

