-- ==== Sys2Proof/Syntax.lean ====
section
/-! DEFINITION. The operations of the block: one constructor of `Instr` per row of spec/opcode_table.json
(spec/30_encoding.md R101), and the names its operands use. The instance a VIAOP call is made on is the
receiver of the call and stands outside the word (R93); here it is the first operand. -/

namespace Sys2Proof

/-- The control lines; the line code of VIAOP is 0 = CA1, 1 = CA2, 2 = CB1, 3 = CB2 (R93). -/
inductive Line where
  | ca1
  | ca2
  | cb1
  | cb2
deriving DecidableEq, Repr

/-- The sixteen register indices RS0 to RS15, under the spec's names (R18, R92). -/
inductive Reg where
  | orbIrb
  | oraIra
  | ddrb
  | ddra
  | t1cL
  | t1cH
  | t1lL
  | t1lH
  | t2cL
  | t2cH
  | sr
  | acr
  | pcr
  | ifr
  | ier
  | oraIraNh
deriving DecidableEq, Repr

/-- One constructor per row of the opcode table (R101). -/
inductive Instr where
  /-- BUS_RD (R110): a read bus cycle; the D field of the word is ignored (R91). -/
  | busRd (a : Addr)
  /-- BUS_WR (R111): a write bus cycle. -/
  | busWr (a : Addr) (d : Byte)
  /-- READ_REG RS0 (R130). -/
  | rdOrbIrb (v : ViaId)
  /-- READ_REG RS1 (R132). -/
  | rdOraIra (v : ViaId)
  /-- READ_REG RS2 (R139). -/
  | rdDdrb (v : ViaId)
  /-- READ_REG RS3 (R142). -/
  | rdDdra (v : ViaId)
  /-- READ_REG RS4 (R151). -/
  | rdT1cL (v : ViaId)
  /-- READ_REG RS5 (R153). -/
  | rdT1cH (v : ViaId)
  /-- READ_REG RS6 (R155). -/
  | rdT1lL (v : ViaId)
  /-- READ_REG RS7 (R157). -/
  | rdT1lH (v : ViaId)
  /-- READ_REG RS8 (R159). -/
  | rdT2cL (v : ViaId)
  /-- READ_REG RS9 (R161). -/
  | rdT2cH (v : ViaId)
  /-- READ_REG RS10 (R171). -/
  | rdSr (v : ViaId)
  /-- READ_REG RS11 (R173). -/
  | rdAcr (v : ViaId)
  /-- READ_REG RS12 (R175). -/
  | rdPcr (v : ViaId)
  /-- READ_REG RS13 (R177). -/
  | rdIfr (v : ViaId)
  /-- READ_REG RS14 (R179). -/
  | rdIer (v : ViaId)
  /-- READ_REG RS15 (R140). -/
  | rdOraIraNh (v : ViaId)
  /-- WRITE_REG RS0 (R131). -/
  | wrOrb (v : ViaId) (d : Byte)
  /-- WRITE_REG RS1 (R133). -/
  | wrOra (v : ViaId) (d : Byte)
  /-- WRITE_REG RS2 (R137). -/
  | wrDdrb (v : ViaId) (d : Byte)
  /-- WRITE_REG RS3 (R138). -/
  | wrDdra (v : ViaId) (d : Byte)
  /-- WRITE_REG RS4 (R150). -/
  | wrT1cL (v : ViaId) (d : Byte)
  /-- WRITE_REG RS5 (R152). -/
  | wrT1cH (v : ViaId) (d : Byte)
  /-- WRITE_REG RS6 (R154). -/
  | wrT1lL (v : ViaId) (d : Byte)
  /-- WRITE_REG RS7 (R156). -/
  | wrT1lH (v : ViaId) (d : Byte)
  /-- WRITE_REG RS8 (R158). -/
  | wrT2cL (v : ViaId) (d : Byte)
  /-- WRITE_REG RS9 (R160). -/
  | wrT2cH (v : ViaId) (d : Byte)
  /-- WRITE_REG RS10 (R170). -/
  | wrSr (v : ViaId) (d : Byte)
  /-- WRITE_REG RS11 (R172). -/
  | wrAcr (v : ViaId) (d : Byte)
  /-- WRITE_REG RS12 (R174). -/
  | wrPcr (v : ViaId) (d : Byte)
  /-- WRITE_REG RS13 (R176). -/
  | wrIfr (v : ViaId) (d : Byte)
  /-- WRITE_REG RS14 (R178). -/
  | wrIer (v : ViaId) (d : Byte)
  /-- WRITE_REG RS15 (R141). -/
  | wrOraNh (v : ViaId) (d : Byte)
  /-- TICK n (R190); a well-formed one has n ≠ 0 (R97). -/
  | tick (v : ViaId) (n : BitVec 12)
  /-- RESET (R218). -/
  | reset (v : ViaId)
  /-- SET_LINE CA1 (R210). -/
  | setCa1 (v : ViaId) (b : Bool)
  /-- SET_LINE CA2 (R210). -/
  | setCa2 (v : ViaId) (b : Bool)
  /-- SET_LINE CB1 (R210). -/
  | setCb1 (v : ViaId) (b : Bool)
  /-- SET_LINE CB2 (R210). -/
  | setCb2 (v : ViaId) (b : Bool)
  /-- SET_PORT A (R212). -/
  | setPa (v : ViaId) (d : Byte)
  /-- SET_PORT B (R212). -/
  | setPb (v : ViaId) (d : Byte)
  /-- GET_LINE CA1 (R214). -/
  | getCa1 (v : ViaId)
  /-- GET_LINE CA2 (R214). -/
  | getCa2 (v : ViaId)
  /-- GET_LINE CB1 (R214). -/
  | getCb1 (v : ViaId)
  /-- GET_LINE CB2 (R214). -/
  | getCb2 (v : ViaId)
  /-- GET_PORT A (R216). -/
  | getPa (v : ViaId)
  /-- GET_PORT B (R216). -/
  | getPb (v : ViaId)
deriving DecidableEq, Repr

end Sys2Proof
end

