-- ==== Sys2Proof/WellFormed.lean ====
section
/-! DEFINITION. Which terms of `Instr` are operations of the block. Every operand's range is its type's,
but for TICK, whose count is in 1..4095 (spec/30_encoding.md R95 (f), R97). -/

namespace Sys2Proof

/-- The operation has a word of its own in the opcode table: TICK needs n ≠ 0 (R97, R101). -/
def Instr.wf : Instr → Bool
  | .tick _ n => n != 0#12
  | .busRd _ => true
  | .busWr _ _ => true
  | .rdOrbIrb _ => true
  | .rdOraIra _ => true
  | .rdDdrb _ => true
  | .rdDdra _ => true
  | .rdT1cL _ => true
  | .rdT1cH _ => true
  | .rdT1lL _ => true
  | .rdT1lH _ => true
  | .rdT2cL _ => true
  | .rdT2cH _ => true
  | .rdSr _ => true
  | .rdAcr _ => true
  | .rdPcr _ => true
  | .rdIfr _ => true
  | .rdIer _ => true
  | .rdOraIraNh _ => true
  | .wrOrb _ _ => true
  | .wrOra _ _ => true
  | .wrDdrb _ _ => true
  | .wrDdra _ _ => true
  | .wrT1cL _ _ => true
  | .wrT1cH _ _ => true
  | .wrT1lL _ _ => true
  | .wrT1lH _ _ => true
  | .wrT2cL _ _ => true
  | .wrT2cH _ _ => true
  | .wrSr _ _ => true
  | .wrAcr _ _ => true
  | .wrPcr _ _ => true
  | .wrIfr _ _ => true
  | .wrIer _ _ => true
  | .wrOraNh _ _ => true
  | .reset _ => true
  | .setCa1 _ _ => true
  | .setCa2 _ _ => true
  | .setCb1 _ _ => true
  | .setCb2 _ _ => true
  | .setPa _ _ => true
  | .setPb _ _ => true
  | .getCa1 _ => true
  | .getCa2 _ => true
  | .getCb1 _ => true
  | .getCb2 _ => true
  | .getPa _ => true
  | .getPb _ => true

end Sys2Proof
end

