-- ==== Sys2Proof/Decode.lean ====
section
/-! DEFINITION. Decoding and encoding of the two word formats (spec/30_encoding.md). The bits of a word never
say which format it is in: the channel it arrives on does (R94), so the decoder takes a word on its channel. -/

namespace Sys2Proof

/-- A word together with the channel it arrives on (R94): the bus, or a call on one instance (R93). -/
inductive ChanWord where
  | bus (w : BusWord)
  | call (v : ViaId) (w : OpWord)
deriving DecidableEq, Repr

/-- Why a VIAOP word is refused (R97). No BUS word is (R98). -/
inductive DecodeError where
  /-- OP is 0x8 to 0xF: refuse(ReservedClass). -/
  | reservedClass
  /-- A bit marked "must be 0" is 1: refuse(ReservedBits). -/
  | reservedBits
  /-- A TICK word with n = 0 (R97; spec/95_test_vectors.md V-LINE row 15). -/
  | tickZero
deriving DecidableEq, Repr

/-- What a decoder answers: an operation, or a refusal by name. -/
inductive Decoded where
  | ok (i : Instr)
  | error (e : DecodeError)
deriving DecidableEq, Repr

/-- The word is not one R97 refuses. -/
def Decoded.isOk : Decoded → Bool
  | .ok _ => true
  | .error _ => false

/-- Register index RS by its number, bits 3 down to 0 (R92). -/
def Reg.ofBits (b : BitVec 4) : Reg :=
  match b.getLsbD 3, b.getLsbD 2, b.getLsbD 1, b.getLsbD 0 with
  | false, false, false, false => .orbIrb
  | false, false, false, true => .oraIra
  | false, false, true, false => .ddrb
  | false, false, true, true => .ddra
  | false, true, false, false => .t1cL
  | false, true, false, true => .t1cH
  | false, true, true, false => .t1lL
  | false, true, true, true => .t1lH
  | true, false, false, false => .t2cL
  | true, false, false, true => .t2cH
  | true, false, true, false => .sr
  | true, false, true, true => .acr
  | true, true, false, false => .pcr
  | true, true, false, true => .ifr
  | true, true, true, false => .ier
  | true, true, true, true => .oraIraNh

/-- The number of a register index (R92). -/
def Reg.bits : Reg → BitVec 4
  | .orbIrb => 0#4
  | .oraIra => 1#4
  | .ddrb => 2#4
  | .ddra => 3#4
  | .t1cL => 4#4
  | .t1cH => 5#4
  | .t1lL => 6#4
  | .t1lH => 7#4
  | .t2cL => 8#4
  | .t2cH => 9#4
  | .sr => 10#4
  | .acr => 11#4
  | .pcr => 12#4
  | .ifr => 13#4
  | .ier => 14#4
  | .oraIraNh => 15#4

/-- READ_REG of a register index, as an operation (R92, R101). -/
def readInstr (v : ViaId) : Reg → Instr
  | .orbIrb => .rdOrbIrb v
  | .oraIra => .rdOraIra v
  | .ddrb => .rdDdrb v
  | .ddra => .rdDdra v
  | .t1cL => .rdT1cL v
  | .t1cH => .rdT1cH v
  | .t1lL => .rdT1lL v
  | .t1lH => .rdT1lH v
  | .t2cL => .rdT2cL v
  | .t2cH => .rdT2cH v
  | .sr => .rdSr v
  | .acr => .rdAcr v
  | .pcr => .rdPcr v
  | .ifr => .rdIfr v
  | .ier => .rdIer v
  | .oraIraNh => .rdOraIraNh v

/-- WRITE_REG of a register index, as an operation (R92, R101). -/
def writeInstr (v : ViaId) (d : Byte) : Reg → Instr
  | .orbIrb => .wrOrb v d
  | .oraIra => .wrOra v d
  | .ddrb => .wrDdrb v d
  | .ddra => .wrDdra v d
  | .t1cL => .wrT1cL v d
  | .t1cH => .wrT1cH v d
  | .t1lL => .wrT1lL v d
  | .t1lH => .wrT1lH v d
  | .t2cL => .wrT2cL v d
  | .t2cH => .wrT2cH v d
  | .sr => .wrSr v d
  | .acr => .wrAcr v d
  | .pcr => .wrPcr v d
  | .ifr => .wrIfr v d
  | .ier => .wrIer v d
  | .oraIraNh => .wrOraNh v d

/-- Line code L, bits 1 and 0 (R93). -/
def Line.ofBits (l : BitVec 2) : Line :=
  match l.getLsbD 1, l.getLsbD 0 with
  | false, false => .ca1
  | false, true => .ca2
  | true, false => .cb1
  | true, true => .cb2

/-- The code of a line (R93). -/
def Line.bits : Line → BitVec 2
  | .ca1 => 0#2
  | .ca2 => 1#2
  | .cb1 => 2#2
  | .cb2 => 3#2

/-- Port code P (R93). -/
def Port.ofBit (p : Bool) : Port := if p then .b else .a

/-- The code of a port (R93). -/
def Port.bit : Port → Bool
  | .a => false
  | .b => true

/-- SET_LINE of a line, as an operation (R210). -/
def setLineInstr (v : ViaId) (b : Bool) : Line → Instr
  | .ca1 => .setCa1 v b
  | .ca2 => .setCa2 v b
  | .cb1 => .setCb1 v b
  | .cb2 => .setCb2 v b

/-- GET_LINE of a line, as an operation (R214). -/
def getLineInstr (v : ViaId) : Line → Instr
  | .ca1 => .getCa1 v
  | .ca2 => .getCa2 v
  | .cb1 => .getCb1 v
  | .cb2 => .getCb2 v

/-- SET_PORT of a port, as an operation (R212). -/
def setPortInstr (v : ViaId) (d : Byte) : Port → Instr
  | .a => .setPa v d
  | .b => .setPb v d

/-- GET_PORT of a port, as an operation (R216). -/
def getPortInstr (v : ViaId) : Port → Instr
  | .a => .getPa v
  | .b => .getPb v

/-- Format BUS (R91): bit 24 is R, bits 23:8 the address, bits 7:0 the data, ignored in a read. -/
def decodeBus (w : BusWord) : Instr :=
  let a := w.extractLsb' 8 16
  if w.getLsbD 24 then .busRd a else .busWr a (w.extractLsb' 0 8)

/-- Format VIAOP (R93), a call on instance `v`; the words R97 refuses are refused by name. -/
def decodeViaop (v : ViaId) (w : OpWord) : Decoded :=
  let rs := Reg.ofBits (w.extractLsb' 8 4)
  let line := Line.ofBits (w.extractLsb' 8 2)
  let port := Port.ofBit (w.getLsbD 8)
  let d := w.extractLsb' 0 8
  match (w.extractLsb' 12 4).toNat with
  | 0 => .ok (writeInstr v d rs)
  | 1 => if d = 0#8 then .ok (readInstr v rs) else .error .reservedBits
  | 2 =>
    if w.extractLsb' 0 12 = 0#12 then .error .tickZero else .ok (.tick v (w.extractLsb' 0 12))
  | 3 => if w.extractLsb' 0 12 = 0#12 then .ok (.reset v) else .error .reservedBits
  | 4 =>
    if w.extractLsb' 10 2 = 0#2 ∧ w.extractLsb' 1 7 = 0#7 then
      .ok (setLineInstr v (w.getLsbD 0) line)
    else .error .reservedBits
  | 5 => if w.extractLsb' 9 3 = 0#3 then .ok (setPortInstr v d port) else .error .reservedBits
  | 6 =>
    if w.extractLsb' 10 2 = 0#2 ∧ d = 0#8 then .ok (getLineInstr v line)
    else .error .reservedBits
  | 7 =>
    if w.extractLsb' 9 3 = 0#3 ∧ d = 0#8 then .ok (getPortInstr v port)
    else .error .reservedBits
  | _ => .error .reservedClass

/-- A word on its channel (R94). -/
def decode : ChanWord → Decoded
  | .bus w => .ok (decodeBus w)
  | .call v w => decodeViaop v w

/-- The channel and word of `nbits` bits whose value is `w`: up to 16 bits it is a VIAOP word, up to 32 a
BUS word in a container of whole bytes. The receiver of a VIAOP call stands outside the word (R93), so
this reading fixes it: VIA-1 (DESIGN CHOICE, log 6). A value that its format has no word for has none. -/
def wordOnChannel (nbits w : Nat) : Option ChanWord :=
  if nbits ≤ 16 then
    if w < 2 ^ 16 then some (.call .via1 (BitVec.ofNat 16 w)) else none
  else if nbits ≤ 32 then
    if w < 2 ^ 25 then some (.bus (BitVec.ofNat 25 w)) else none
  else none

/-- The operation the decoder reads from a table word (the host's question, row by row). -/
def decodeTableWord (nbits w : Nat) : Option Instr :=
  match wordOnChannel nbits w with
  | none => none
  | some c =>
    match decode c with
    | .ok i => some i
    | .error _ => none

/-- The operation class, the register index and the low byte of a register call (R93). -/
def regWord (op : BitVec 4) (r : Reg) (d : Byte) : OpWord := op ++ r.bits ++ d

/-- A line call (R93): bits 11:10 are 0, bits 9:8 the line, bits 7:0 as given. -/
def lineWord (op : BitVec 4) (l : Line) (d : Byte) : OpWord := op ++ 0#2 ++ l.bits ++ d

/-- A port call (R93): bits 11:9 are 0, bit 8 the port, bits 7:0 as given. -/
def portWord (op : BitVec 4) (p : Port) (d : Byte) : OpWord :=
  op ++ 0#3 ++ BitVec.ofBool p.bit ++ d

/-- The line value in bit 0, bits 7:1 zero (R93). -/
def lineValue (b : Bool) : Byte := 0#7 ++ BitVec.ofBool b

/-- The word of an operation on its channel, written from R91 and R93. The ignored D of a read is 0. -/
def encode : Instr → ChanWord
  | .busRd a => .bus (1#1 ++ (a ++ 0#8))
  | .busWr a d => .bus (0#1 ++ (a ++ d))
  | .rdOrbIrb v => .call v (regWord 1#4 .orbIrb 0#8)
  | .rdOraIra v => .call v (regWord 1#4 .oraIra 0#8)
  | .rdDdrb v => .call v (regWord 1#4 .ddrb 0#8)
  | .rdDdra v => .call v (regWord 1#4 .ddra 0#8)
  | .rdT1cL v => .call v (regWord 1#4 .t1cL 0#8)
  | .rdT1cH v => .call v (regWord 1#4 .t1cH 0#8)
  | .rdT1lL v => .call v (regWord 1#4 .t1lL 0#8)
  | .rdT1lH v => .call v (regWord 1#4 .t1lH 0#8)
  | .rdT2cL v => .call v (regWord 1#4 .t2cL 0#8)
  | .rdT2cH v => .call v (regWord 1#4 .t2cH 0#8)
  | .rdSr v => .call v (regWord 1#4 .sr 0#8)
  | .rdAcr v => .call v (regWord 1#4 .acr 0#8)
  | .rdPcr v => .call v (regWord 1#4 .pcr 0#8)
  | .rdIfr v => .call v (regWord 1#4 .ifr 0#8)
  | .rdIer v => .call v (regWord 1#4 .ier 0#8)
  | .rdOraIraNh v => .call v (regWord 1#4 .oraIraNh 0#8)
  | .wrOrb v d => .call v (regWord 0#4 .orbIrb d)
  | .wrOra v d => .call v (regWord 0#4 .oraIra d)
  | .wrDdrb v d => .call v (regWord 0#4 .ddrb d)
  | .wrDdra v d => .call v (regWord 0#4 .ddra d)
  | .wrT1cL v d => .call v (regWord 0#4 .t1cL d)
  | .wrT1cH v d => .call v (regWord 0#4 .t1cH d)
  | .wrT1lL v d => .call v (regWord 0#4 .t1lL d)
  | .wrT1lH v d => .call v (regWord 0#4 .t1lH d)
  | .wrT2cL v d => .call v (regWord 0#4 .t2cL d)
  | .wrT2cH v d => .call v (regWord 0#4 .t2cH d)
  | .wrSr v d => .call v (regWord 0#4 .sr d)
  | .wrAcr v d => .call v (regWord 0#4 .acr d)
  | .wrPcr v d => .call v (regWord 0#4 .pcr d)
  | .wrIfr v d => .call v (regWord 0#4 .ifr d)
  | .wrIer v d => .call v (regWord 0#4 .ier d)
  | .wrOraNh v d => .call v (regWord 0#4 .oraIraNh d)
  | .tick v n => .call v (2#4 ++ n)
  | .reset v => .call v (3#4 ++ 0#12)
  | .setCa1 v b => .call v (lineWord 4#4 .ca1 (lineValue b))
  | .setCa2 v b => .call v (lineWord 4#4 .ca2 (lineValue b))
  | .setCb1 v b => .call v (lineWord 4#4 .cb1 (lineValue b))
  | .setCb2 v b => .call v (lineWord 4#4 .cb2 (lineValue b))
  | .setPa v d => .call v (portWord 5#4 .a d)
  | .setPb v d => .call v (portWord 5#4 .b d)
  | .getCa1 v => .call v (lineWord 6#4 .ca1 0#8)
  | .getCa2 v => .call v (lineWord 6#4 .ca2 0#8)
  | .getCb1 v => .call v (lineWord 6#4 .cb1 0#8)
  | .getCb2 v => .call v (lineWord 6#4 .cb2 0#8)
  | .getPa v => .call v (portWord 7#4 .a 0#8)
  | .getPb v => .call v (portWord 7#4 .b 0#8)

/-- A row of the opcode table (R101): a word w is in the row when w &&& mask = pattern. -/
structure TableRow (n : Nat) where
  mnemonic : String
  pattern : BitVec n
  mask : BitVec n
deriving DecidableEq, Repr

/-- The table's BUS rows (R101). -/
def busTable : List (TableRow 25) :=
  [⟨"BUS_RD", 0x1000000#25, 0x1000000#25⟩, ⟨"BUS_WR", 0x0000000#25, 0x1000000#25⟩]

/-- The table's READ_REG rows (R101). -/
def readTable : List (TableRow 16) :=
  [⟨"RD_ORB_IRB", 0x1000#16, 0xFFFF#16⟩, ⟨"RD_ORA_IRA", 0x1100#16, 0xFFFF#16⟩,
   ⟨"RD_DDRB", 0x1200#16, 0xFFFF#16⟩, ⟨"RD_DDRA", 0x1300#16, 0xFFFF#16⟩,
   ⟨"RD_T1C_L", 0x1400#16, 0xFFFF#16⟩, ⟨"RD_T1C_H", 0x1500#16, 0xFFFF#16⟩,
   ⟨"RD_T1L_L", 0x1600#16, 0xFFFF#16⟩, ⟨"RD_T1L_H", 0x1700#16, 0xFFFF#16⟩,
   ⟨"RD_T2C_L", 0x1800#16, 0xFFFF#16⟩, ⟨"RD_T2C_H", 0x1900#16, 0xFFFF#16⟩,
   ⟨"RD_SR", 0x1A00#16, 0xFFFF#16⟩, ⟨"RD_ACR", 0x1B00#16, 0xFFFF#16⟩,
   ⟨"RD_PCR", 0x1C00#16, 0xFFFF#16⟩, ⟨"RD_IFR", 0x1D00#16, 0xFFFF#16⟩,
   ⟨"RD_IER", 0x1E00#16, 0xFFFF#16⟩, ⟨"RD_ORA_IRA_NH", 0x1F00#16, 0xFFFF#16⟩]

/-- The table's WRITE_REG rows (R101). -/
def writeTable : List (TableRow 16) :=
  [⟨"WR_ORB", 0x0000#16, 0xFF00#16⟩, ⟨"WR_ORA", 0x0100#16, 0xFF00#16⟩,
   ⟨"WR_DDRB", 0x0200#16, 0xFF00#16⟩, ⟨"WR_DDRA", 0x0300#16, 0xFF00#16⟩,
   ⟨"WR_T1C_L", 0x0400#16, 0xFF00#16⟩, ⟨"WR_T1C_H", 0x0500#16, 0xFF00#16⟩,
   ⟨"WR_T1L_L", 0x0600#16, 0xFF00#16⟩, ⟨"WR_T1L_H", 0x0700#16, 0xFF00#16⟩,
   ⟨"WR_T2C_L", 0x0800#16, 0xFF00#16⟩, ⟨"WR_T2C_H", 0x0900#16, 0xFF00#16⟩,
   ⟨"WR_SR", 0x0A00#16, 0xFF00#16⟩, ⟨"WR_ACR", 0x0B00#16, 0xFF00#16⟩,
   ⟨"WR_PCR", 0x0C00#16, 0xFF00#16⟩, ⟨"WR_IFR", 0x0D00#16, 0xFF00#16⟩,
   ⟨"WR_IER", 0x0E00#16, 0xFF00#16⟩, ⟨"WR_ORA_NH", 0x0F00#16, 0xFF00#16⟩]

/-- The table's TICK, RESET, line and port rows (R101). -/
def lineTable : List (TableRow 16) :=
  [⟨"TICK", 0x2000#16, 0xF000#16⟩, ⟨"RESET", 0x3000#16, 0xFFFF#16⟩,
   ⟨"SET_CA1", 0x4000#16, 0xFFFE#16⟩, ⟨"SET_CA2", 0x4100#16, 0xFFFE#16⟩,
   ⟨"SET_CB1", 0x4200#16, 0xFFFE#16⟩, ⟨"SET_CB2", 0x4300#16, 0xFFFE#16⟩,
   ⟨"SET_PA", 0x5000#16, 0xFF00#16⟩, ⟨"SET_PB", 0x5100#16, 0xFF00#16⟩,
   ⟨"GET_CA1", 0x6000#16, 0xFFFF#16⟩, ⟨"GET_CA2", 0x6100#16, 0xFFFF#16⟩,
   ⟨"GET_CB1", 0x6200#16, 0xFFFF#16⟩, ⟨"GET_CB2", 0x6300#16, 0xFFFF#16⟩,
   ⟨"GET_PA", 0x7000#16, 0xFFFF#16⟩, ⟨"GET_PB", 0x7100#16, 0xFFFF#16⟩]

/-- The table's VIAOP rows (R101). -/
def viaopTable : List (TableRow 16) := readTable ++ writeTable ++ lineTable

/-- The row holds the word (R101). -/
def TableRow.holds {n : Nat} (r : TableRow n) (w : BitVec n) : Bool := w &&& r.mask == r.pattern

/-- The mnemonic of an operation, as the opcode table has it (R101). -/
def Instr.mnemonic : Instr → String
  | .busRd _ => "BUS_RD"
  | .busWr _ _ => "BUS_WR"
  | .rdOrbIrb _ => "RD_ORB_IRB"
  | .rdOraIra _ => "RD_ORA_IRA"
  | .rdDdrb _ => "RD_DDRB"
  | .rdDdra _ => "RD_DDRA"
  | .rdT1cL _ => "RD_T1C_L"
  | .rdT1cH _ => "RD_T1C_H"
  | .rdT1lL _ => "RD_T1L_L"
  | .rdT1lH _ => "RD_T1L_H"
  | .rdT2cL _ => "RD_T2C_L"
  | .rdT2cH _ => "RD_T2C_H"
  | .rdSr _ => "RD_SR"
  | .rdAcr _ => "RD_ACR"
  | .rdPcr _ => "RD_PCR"
  | .rdIfr _ => "RD_IFR"
  | .rdIer _ => "RD_IER"
  | .rdOraIraNh _ => "RD_ORA_IRA_NH"
  | .wrOrb _ _ => "WR_ORB"
  | .wrOra _ _ => "WR_ORA"
  | .wrDdrb _ _ => "WR_DDRB"
  | .wrDdra _ _ => "WR_DDRA"
  | .wrT1cL _ _ => "WR_T1C_L"
  | .wrT1cH _ _ => "WR_T1C_H"
  | .wrT1lL _ _ => "WR_T1L_L"
  | .wrT1lH _ _ => "WR_T1L_H"
  | .wrT2cL _ _ => "WR_T2C_L"
  | .wrT2cH _ _ => "WR_T2C_H"
  | .wrSr _ _ => "WR_SR"
  | .wrAcr _ _ => "WR_ACR"
  | .wrPcr _ _ => "WR_PCR"
  | .wrIfr _ _ => "WR_IFR"
  | .wrIer _ _ => "WR_IER"
  | .wrOraNh _ _ => "WR_ORA_NH"
  | .tick _ _ => "TICK"
  | .reset _ => "RESET"
  | .setCa1 _ _ => "SET_CA1"
  | .setCa2 _ _ => "SET_CA2"
  | .setCb1 _ _ => "SET_CB1"
  | .setCb2 _ _ => "SET_CB2"
  | .setPa _ _ => "SET_PA"
  | .setPb _ _ => "SET_PB"
  | .getCa1 _ => "GET_CA1"
  | .getCa2 _ => "GET_CA2"
  | .getCb1 _ => "GET_CB1"
  | .getCb2 _ => "GET_CB2"
  | .getPa _ => "GET_PA"
  | .getPb _ => "GET_PB"

/-- The pseudo-instructions (R100). `base` is the address of RS0 of an instance. -/
inductive Pseudo where
  | enable (base : Addr) (mask : Byte)
  | disable (base : Addr) (mask : Byte)
  | clrFlags (base : Addr) (mask : Byte)
  | loadT1 (base : Addr) (n : Count)
  | loadT2 (base : Addr) (n : Count)
  | ackT1 (base : Addr)
  | ackT2 (base : Addr)
deriving DecidableEq, Repr

/-- The bus cycles a pseudo-instruction stands for, one tick each (R100). -/
def Pseudo.expand : Pseudo → List Instr
  | .enable base mask => [.busWr (base + 0xE#16) (0x80#8 ||| mask)]
  | .disable base mask => [.busWr (base + 0xE#16) (mask &&& 0x7F#8)]
  | .clrFlags base mask => [.busWr (base + 0xD#16) (mask &&& 0x7F#8)]
  | .loadT1 base n =>
    [.busWr (base + 0x4#16) (n.extractLsb' 0 8), .busWr (base + 0x5#16) (n.extractLsb' 8 8)]
  | .loadT2 base n =>
    [.busWr (base + 0x8#16) (n.extractLsb' 0 8), .busWr (base + 0x9#16) (n.extractLsb' 8 8)]
  | .ackT1 base => [.busRd (base + 0x4#16)]
  | .ackT2 base => [.busRd (base + 0x8#16)]

end Sys2Proof
end

