-- ==== Sys2Proof/Machine/State.lean ====
section
/-! DEFINITION. The state of the block (spec/10_state.md), all of it plain data, its value at launch
(spec/70_reset_and_hazards.md R280), and the ways a step can stop. -/

namespace Sys2Proof.Machine

open Sys2Proof

/-- One VIA instance (R24): every field the rule's table lists, and nothing else. -/
structure Via where
  /-- Output register A (R25). -/
  ora : Byte
  /-- Output register B (R26). -/
  orb : Byte
  /-- Data-direction register A (R27). -/
  ddra : Byte
  /-- Data-direction register B (R28). -/
  ddrb : Byte
  /-- External port A value (R29). -/
  pa : Byte
  /-- External port B value (R30). -/
  pb : Byte
  /-- Timer 1 counter (R33). -/
  t1c : Count
  /-- Timer 1 latch (R34). -/
  t1l : Count
  /-- Timer 1 one-shot already fired (R35). -/
  t1fired : Bool
  /-- Timer 2 counter (R36). -/
  t2c : Count
  /-- Timer 2 latch, low byte only (R37). -/
  t2l : Byte
  /-- Timer 2 one-shot already fired (R38). -/
  t2fired : Bool
  /-- Control-line values (R39). -/
  ca1 : Bool
  ca2 : Bool
  cb1 : Bool
  cb2 : Bool
  /-- Remembered previous line values (R40). -/
  ca1Prev : Bool
  ca2Prev : Bool
  cb1Prev : Bool
  cb2Prev : Bool
  /-- Interrupt flags, bits 6..0 (R41). -/
  ifr : Flags
  /-- Interrupt enables, bits 6..0 (R43). -/
  ier : Flags
  /-- Auxiliary control (R44). -/
  acr : Byte
  /-- Peripheral control (R45). -/
  pcr : Byte
  /-- Shift register, stored only (R46). -/
  sr : Byte
deriving DecidableEq, Repr

/-- An instance as RESET leaves it: every field 0 (R24, R218). -/
def Via.zero : Via where
  ora := 0#8
  orb := 0#8
  ddra := 0#8
  ddrb := 0#8
  pa := 0#8
  pb := 0#8
  t1c := 0#16
  t1l := 0#16
  t1fired := false
  t2c := 0#16
  t2l := 0#8
  t2fired := false
  ca1 := false
  ca2 := false
  cb1 := false
  cb2 := false
  ca1Prev := false
  ca2Prev := false
  cb1Prev := false
  cb2Prev := false
  ifr := 0#7
  ier := 0#7
  acr := 0#8
  pcr := 0#8
  sr := 0#8

/-- MEM (R22): the bytes that differ from `Memory.blank`, addresses strictly rising (`Memory.wf`). -/
structure Memory where
  cells : List Host.Cell
deriving DecidableEq, Repr

/-- What an unlisted address of MEM reads as. DESIGN CHOICE, unsafe (log 1): the source fixes only the ROM
images (R22, U7). A state with any other image lists its bytes. -/
def Memory.blank : Byte := 0#8

/-- MEM with nothing listed. -/
def Memory.empty : Memory := ⟨[]⟩

/-- A mailbox entry (R47). -/
structure Entry where
  addr : Addr
  data : Byte
deriving DecidableEq, Repr

/-- The input matrix of one tick (R236): eight rows of eight bits. -/
structure KeyMatrix where
  rows : Vector Byte 8
deriving DecidableEq, Repr

/-- The matrix with no bit set. -/
def KeyMatrix.zero : KeyMatrix := ⟨Vector.replicate 8 0#8⟩

/-- One input of the block, in the order the environment offers them. The CPU, the host and the keyboard
are outside the block (R3, R211, R236), so what they offer stands in a queue of the state. -/
inductive Input where
  /-- The Bus Driver's bus cycle of one tick, with that tick's matrix (R230). -/
  | bus (w : BusWord) (m : KeyMatrix)
  /-- A call on one instance: a host event at a tick boundary (R235), or a direct VIAOP call (R93). -/
  | call (v : ViaId) (w : OpWord)
  /-- The relaxed mode's DISPATCH_STEP, chosen by the environment (R241). -/
  | dispatch (m : KeyMatrix)
  /-- In the relaxed mode, a bus cycle that overlaps a dispatch of the instance it reads (R242). -/
  | overlap (w : BusWord) (m : KeyMatrix)
  /-- Shutdown's forced extra dispatch quantum, after the run (R243). -/
  | shutdown (m : KeyMatrix)
  /-- A bus cycle that missed its time budget (R252, U2). -/
  | lateCycle
deriving DecidableEq, Repr

/-- What the last operation returned to its caller. -/
inductive Result where
  | none
  | byte (b : Byte)
  | bit (b : Bool)
deriving DecidableEq, Repr

/-- The state of the block (R20), the setup it was launched with (R12), and the model's own fields. -/
structure State where
  /-- The Memory Image (R22). -/
  mem : Memory
  /-- The Page Table (R23). -/
  pt : PageTable
  /-- The first VIA instance (R24). -/
  via1 : Via
  /-- The second VIA instance (R24). -/
  via2 : Via
  /-- The mailbox, oldest entry first (R47). -/
  mbox : List Entry
  /-- The interrupt-request output (R48). -/
  irq : Bool
  /-- The number of ticks completed (R49). -/
  ticks : Nat
  /-- The number of ticks the dispatch role has processed; the relaxed mode's cell (R241). -/
  dispatched : Nat
  /-- The setup parameters (R8 to R12), fixed before the first tick. -/
  setup : Setup
  /-- The model's own: inputs offered and not yet taken (R211, R230). -/
  inputs : List Input
  /-- The model's own: what the last operation returned. -/
  result : Result
  /-- The model's own: how many free values have been drawn (U3). -/
  draws : Nat
deriving DecidableEq, Repr

/-- The block raises no exception and no address faults (R65, R250), so there is no fault. -/
inductive Fault : Type
deriving DecidableEq, Repr

/-- Why a setup is refused (R263). -/
inductive SetupFailure where
  /-- VIA_COUNT is not 1 or 2. -/
  | viaCount
  /-- VIA1_BLOCK = VIA2_BLOCK. -/
  | sameBlock
  /-- MAILBOX_CAPACITY is 0. -/
  | mailboxCapacity
  /-- KBD_RETURN_PORT = KBD_SELECT_PORT while KBD_ENABLE holds. -/
  | kbdPorts
  /-- KBD_VIA > VIA_COUNT while KBD_ENABLE holds. -/
  | kbdVia
deriving DecidableEq, Repr

/-- Why a step has no meaning. Every one is safe: the model stops and claims nothing. -/
inductive Refusal where
  /-- Raised by `exec` alone, for an operation with no meaning yet (safe). -/
  | notModelled (mnemonic : String)
  /-- Raised by `runInput` for a VIAOP word that R97 refuses (safe). -/
  | reservedWord (e : DecodeError)
  /-- Raised by `runStep` when the setup is one R263 refuses: there is no run (safe). -/
  | setupFailure (f : SetupFailure)
  /-- Raised by `runInput` for a DISPATCH_STEP that R241 does not allow: in lock-step, or with
  DISPATCHED = TICKS (safe). -/
  | dispatchNotDue
  /-- Raised by `runInput` for an overlap that R242 does not describe: in lock-step, with no dispatch due,
  or with a cycle that reads no VIA register (safe). -/
  | noOverlap
  /-- Raised by `runInput` for a missed time budget: "the behavior is undefined" (R252; safe). -/
  | missedBudget
deriving DecidableEq, Repr

/-- The launch state (R280) for given setup parameters, page table and memory image (R12, R19). -/
def State.launch (p : Setup) (pt : PageTable) (image : Memory) : State where
  mem := image
  pt := pt
  via1 := Via.zero
  via2 := Via.zero
  mbox := []
  irq := false
  ticks := 0
  dispatched := 0
  setup := p
  inputs := []
  result := .none
  draws := 0

/-- The launch state with the spec's default parameters (R8, R9, R11), the page table of log 2 and a memory
image that lists nothing (log 1). -/
def State.reset : State := State.launch Setup.defaults PageTable.scenario Memory.empty

end Sys2Proof.Machine
end

