-- ==== Sys2Proof/Machine/Operands.lean ====
section
/-! DEFINITION. How operands are taken from addresses, written bytes and stored state
(spec/20_memory.md R61, R63; spec/30_encoding.md R95, R96). -/

namespace Sys2Proof.Machine

open Sys2Proof

/-- The page number a[15:8] (R16, R96). -/
def pageOf (a : Addr) : BitVec 8 := a.extractLsb' 8 8

/-- The 16-byte block number a[7:4] (R17, R96). -/
def blockOf (a : Addr) : BitVec 4 := a.extractLsb' 4 4

/-- The register index a[3:0] (R17, R96). -/
def regOf (a : Addr) : Reg := Reg.ofBits (a.extractLsb' 0 4)

/-- The tag of a page (R23). -/
def PageTag.of (pt : PageTable) (p : BitVec 8) : PageTag := pt[p.toNat]'p.isLt

/-- classify (R61): the tag of the address's page. -/
def classify (pt : PageTable) (a : Addr) : PageTag := PageTag.of pt (pageOf a)

/-- ioDecode (R63): the instance and register of a MappedIO address; `none` is UNMAPPED. -/
def ioDecode (p : Setup) (a : Addr) : Option (ViaId × Reg) :=
  if blockOf a = p.via1Block then some (.via1, regOf a)
  else if blockOf a = p.via2Block ∧ p.viaCount = 2 then some (.via2, regOf a)
  else none

/-- The low byte of a 16-bit timer value (R66). -/
def loByte (c : Count) : Byte := c.extractLsb' 0 8

/-- The high byte of a 16-bit timer value (R66). -/
def hiByte (c : Count) : Byte := c.extractLsb' 8 8

/-- A 16-bit value with its low byte replaced (R150, R154). -/
def withLo (c : Count) (d : Byte) : Count := hiByte c ++ d

/-- A 16-bit value with its high byte replaced (R95 (a), R152, R156). -/
def withHi (c : Count) (d : Byte) : Count := d ++ loByte c

/-- Bits 6:0 of a written byte (R95 (c), (d)). -/
def mask7 (d : Byte) : Flags := d.extractLsb' 0 7

end Sys2Proof.Machine
end

