-- ==== Sys2Proof/Machine/Flags.lean ====
section
/-! DEFINITION. The interrupt flags of an instance: which bit each is, what clears them, and the summary
(spec/10_state.md R41, R42; spec/41_via_port_registers.md R135). -/

namespace Sys2Proof.Machine

open Sys2Proof

/-- IFR[6], Timer 1 (R41). -/
def flagT1 : Flags := 0b1000000#7

/-- IFR[5], Timer 2 (R41). -/
def flagT2 : Flags := 0b0100000#7

/-- IFR[4], CB1 (R41). -/
def flagCb1 : Flags := 0b0010000#7

/-- IFR[1], CA1 (R41). -/
def flagCa1 : Flags := 0b0000010#7

/-- The flags ackA clears: CA1 and CA2, IFR[1] and IFR[0] (R135). -/
def ackMaskA : Flags := 0b0000011#7

/-- The flags ackB clears: CB1 and CB2, IFR[4] and IFR[3] (R135). -/
def ackMaskB : Flags := 0b0011000#7

/-- Set the flags of a mask. -/
def Via.raiseFlags (x : Via) (m : Flags) : Via := { x with ifr := x.ifr ||| m }

/-- Clear the flags of a mask. -/
def Via.dropFlags (x : Via) (m : Flags) : Via := { x with ifr := x.ifr &&& ~~~m }

/-- ackA (R135). -/
def Via.ackA (x : Via) : Via := x.dropFlags ackMaskA

/-- ackB (R135). -/
def Via.ackB (x : Via) : Via := x.dropFlags ackMaskB

/-- IRQ_PENDING (R42): some flag is set whose enable is set. IFR and IER hold bits 6..0 alone. -/
def Via.irqPending (x : Via) : Bool := x.ifr &&& x.ier != 0#7

/-- The byte a read of RS13 returns (R177): the summary bit above the flags. -/
def Via.ifrByte (x : Via) : Byte := BitVec.ofBool x.irqPending ++ x.ifr

/-- The byte a read of RS14 returns (R179): bit 7 forced to 1. -/
def Via.ierByte (x : Via) : Byte := 1#1 ++ x.ier

/-- The flags a read of a register index acknowledges (R69). -/
def readAckMask : Reg → Flags
  | .orbIrb => ackMaskB
  | .oraIra => ackMaskA
  | .t1cL => flagT1
  | .t2cL => flagT2
  | .ddrb => 0#7
  | .ddra => 0#7
  | .t1cH => 0#7
  | .t1lL => 0#7
  | .t1lH => 0#7
  | .t2cH => 0#7
  | .sr => 0#7
  | .acr => 0#7
  | .pcr => 0#7
  | .ifr => 0#7
  | .ier => 0#7
  | .oraIraNh => 0#7

end Sys2Proof.Machine
end

