-- ==== Sys2Proof/Machine/Ops.lean ====
section
/-! DEFINITION. The named operations the meanings share: one byte of MEM, the mailbox, an instance of the
state, the derived port views and the recomputes, the lines and ports, and the interrupt request. The block
takes no exception and returns from none (spec/60_exceptions.md R250, R257): what it has in their place is
the level IRQ, driven by `State.driveIrq`. -/

namespace Sys2Proof.Machine

open Sys2Proof

/-- The byte listed for an address, or the unlisted one's. -/
def readCells : List Host.Cell → Nat → Byte
  | [], _ => Memory.blank
  | c :: rest, a => if c.1 = a then c.2 else readCells rest a

/-- The cells with one byte stored, kept in canonical form. -/
def writeCells : List Host.Cell → Nat → Byte → List Host.Cell
  | [], a, d => if d = Memory.blank then [] else [(a, d)]
  | c :: rest, a, d =>
    if a < c.1 then (if d = Memory.blank then c :: rest else (a, d) :: c :: rest)
    else if a = c.1 then (if d = Memory.blank then rest else (a, d) :: rest)
    else c :: writeCells rest a d

/-- MemRead(a, 1) (R14). -/
def Memory.read (m : Memory) (a : Addr) : Byte := readCells m.cells a.toNat

/-- MemWrite(a, 1, d) (R14). -/
def Memory.write (m : Memory) (a : Addr) (d : Byte) : Memory := ⟨writeCells m.cells a.toNat d⟩

/-- Cells in canonical form above a bound: addresses strictly rising and within the 64 Ki space, no byte
equal to what an unlisted address reads as. -/
def canonicalFrom : Nat → List Host.Cell → Bool
  | _, [] => true
  | lo, c :: rest =>
    decide (lo ≤ c.1) && decide (c.1 < 65536) && (c.2 != Memory.blank) && canonicalFrom (c.1 + 1) rest

/-- The canonical form of MEM. -/
def Memory.wf (m : Memory) : Bool := canonicalFrom 0 m.cells

/-- What the presentation observer sees at an address (R80): MEM, at no effect. -/
def State.presented (s : State) (a : Addr) : Byte := s.mem.read a

/-- One instance of the state. -/
def State.via (s : State) : ViaId → Via
  | .via1 => s.via1
  | .via2 => s.via2

/-- Replace one instance; the other is not touched (R24). -/
def State.setVia (s : State) (v : ViaId) (x : Via) : State :=
  match v with
  | .via1 => { s with via1 := x }
  | .via2 => { s with via2 := x }

/-- A call on an instance that returns `r` and leaves the instance as `x`. -/
def State.callReturns (s : State) (v : ViaId) (r : Result) (x : Via) : State :=
  { s.setVia v x with result := r }

/-- Append at the tail; a full mailbox first loses its head (R73). -/
def pushEntry (cap : Nat) (q : List Entry) (e : Entry) : List Entry :=
  (if q.length = cap then q.tail else q) ++ [e]

/-- enqueue(a, d) on the state's mailbox (R73). -/
def State.enqueue (s : State) (a : Addr) (d : Byte) : State :=
  { s with mbox := pushEntry s.setup.mailboxCapacity s.mbox ⟨a, d⟩ }

/-- IRA, a derived view (R31). -/
def Via.ira (x : Via) : Byte := x.pa

/-- IRB, a derived view (R32). -/
def Via.irb (x : Via) : Byte := (x.pb &&& ~~~x.ddrb) ||| (x.orb &&& x.ddrb)

/-- Port-A recompute (R134). -/
def Via.recomputeA (x : Via) : Via := { x with pa := x.ora }

/-- Port-B recompute (R136). -/
def Via.recomputeB (x : Via) : Via :=
  { x with pb := (x.pb &&& ~~~x.ddrb) ||| (x.orb &&& x.ddrb) }

/-- Drive one control line (R210). -/
def Via.setLine (x : Via) (l : Line) (b : Bool) : Via :=
  match l with
  | .ca1 => { x with ca1 := b }
  | .ca2 => { x with ca2 := b }
  | .cb1 => { x with cb1 := b }
  | .cb2 => { x with cb2 := b }

/-- The value of one control line (R214). -/
def Via.line (x : Via) : Line → Bool
  | .ca1 => x.ca1
  | .ca2 => x.ca2
  | .cb1 => x.cb1
  | .cb2 => x.cb2

/-- Drive the external value of one port (R212). -/
def Via.setPort (x : Via) (p : Port) (d : Byte) : Via :=
  match p with
  | .a => { x with pa := d }
  | .b => { x with pb := d }

/-- The external value of one port (R216). -/
def Via.port (x : Via) : Port → Byte
  | .a => x.pa
  | .b => x.pb

/-- The OR of the pending results of the instances that are ticked (R237). -/
def State.irqLevel (s : State) : Bool :=
  s.via1.irqPending || (decide (s.setup.viaCount = 2) && s.via2.irqPending)

/-- Drive the interrupt request to its level (R237). -/
def State.driveIrq (s : State) : State := { s with irq := s.irqLevel }

end Sys2Proof.Machine
end

