-- ==== Sys2Proof/Machine/PortRegs.lean ====
section
/-! DEFINITION. The port registers RS0, RS1, RS2, RS3 and RS15 (spec/41_via_port_registers.md): what each read
and write does to one instance, and the VIAOP calls that do it. -/

namespace Sys2Proof.Machine

open Sys2Proof

/-- READ_REG RS0 (R130): IRB, then ackB. -/
def Via.readOrbIrb (x : Via) : Byte × Via := (x.irb, x.ackB)

/-- READ_REG RS1 (R132): IRA, then ackA. -/
def Via.readOraIra (x : Via) : Byte × Via := (x.ira, x.ackA)

/-- READ_REG RS2 (R139). -/
def Via.readDdrb (x : Via) : Byte × Via := (x.ddrb, x)

/-- READ_REG RS3 (R142). -/
def Via.readDdra (x : Via) : Byte × Via := (x.ddra, x)

/-- READ_REG RS15 (R140): IRA, with no acknowledge. -/
def Via.readOraIraNh (x : Via) : Byte × Via := (x.ira, x)

/-- WRITE_REG RS0 (R131). -/
def Via.writeOrb (x : Via) (d : Byte) : Via := ({ x with orb := d } : Via).ackB.recomputeB

/-- WRITE_REG RS1 (R133). -/
def Via.writeOra (x : Via) (d : Byte) : Via := ({ x.ackA with ora := d } : Via).recomputeA

/-- WRITE_REG RS2 (R137). -/
def Via.writeDdrb (x : Via) (d : Byte) : Via := ({ x with ddrb := d } : Via).recomputeB

/-- WRITE_REG RS3 (R138). -/
def Via.writeDdra (x : Via) (d : Byte) : Via := ({ x with ddra := d } : Via).recomputeA

/-- WRITE_REG RS15 (R141): as RS1, with no acknowledge. -/
def Via.writeOraNh (x : Via) (d : Byte) : Via := ({ x with ora := d } : Via).recomputeA

/-- A register read as a call: the byte is returned, the instance is left as the read leaves it. -/
def State.readCall (s : State) (v : ViaId) (f : Via → Byte × Via) : State :=
  s.callReturns v (.byte (f (s.via v)).1) (f (s.via v)).2

/-- A register write as a call: nothing is returned. -/
def State.writeCall (s : State) (v : ViaId) (f : Via → Via) : State :=
  s.callReturns v .none (f (s.via v))

/-- RD_ORB_IRB (R130). -/
def execRdOrbIrb (v : ViaId) (s : State) : Host.Outcome State Fault Refusal :=
  .next (s.readCall v Via.readOrbIrb)

/-- RD_ORA_IRA (R132). -/
def execRdOraIra (v : ViaId) (s : State) : Host.Outcome State Fault Refusal :=
  .next (s.readCall v Via.readOraIra)

/-- RD_DDRB (R139). -/
def execRdDdrb (v : ViaId) (s : State) : Host.Outcome State Fault Refusal :=
  .next (s.readCall v Via.readDdrb)

/-- RD_DDRA (R142). -/
def execRdDdra (v : ViaId) (s : State) : Host.Outcome State Fault Refusal :=
  .next (s.readCall v Via.readDdra)

/-- RD_ORA_IRA_NH (R140). -/
def execRdOraIraNh (v : ViaId) (s : State) : Host.Outcome State Fault Refusal :=
  .next (s.readCall v Via.readOraIraNh)

/-- WR_ORB (R131). -/
def execWrOrb (v : ViaId) (d : Byte) (s : State) : Host.Outcome State Fault Refusal :=
  .next (s.writeCall v (·.writeOrb d))

/-- WR_ORA (R133). -/
def execWrOra (v : ViaId) (d : Byte) (s : State) : Host.Outcome State Fault Refusal :=
  .next (s.writeCall v (·.writeOra d))

/-- WR_DDRB (R137). -/
def execWrDdrb (v : ViaId) (d : Byte) (s : State) : Host.Outcome State Fault Refusal :=
  .next (s.writeCall v (·.writeDdrb d))

/-- WR_DDRA (R138). -/
def execWrDdra (v : ViaId) (d : Byte) (s : State) : Host.Outcome State Fault Refusal :=
  .next (s.writeCall v (·.writeDdra d))

/-- WR_ORA_NH (R141). -/
def execWrOraNh (v : ViaId) (d : Byte) (s : State) : Host.Outcome State Fault Refusal :=
  .next (s.writeCall v (·.writeOraNh d))

end Sys2Proof.Machine
end

