-- ==== Sys2Proof/Machine/ControlRegs.lean ====
section
/-! DEFINITION. The control registers RS10 to RS14 (spec/43_via_control_registers.md): what each read and write
does to one instance, and the VIAOP calls that do it. -/

namespace Sys2Proof.Machine

open Sys2Proof

/-- READ_REG RS10 (R171). -/
def Via.readSr (x : Via) : Byte × Via := (x.sr, x)

/-- READ_REG RS11 (R173). -/
def Via.readAcr (x : Via) : Byte × Via := (x.acr, x)

/-- READ_REG RS12 (R175). -/
def Via.readPcr (x : Via) : Byte × Via := (x.pcr, x)

/-- READ_REG RS13 (R177). -/
def Via.readIfr (x : Via) : Byte × Via := (x.ifrByte, x)

/-- READ_REG RS14 (R179). -/
def Via.readIer (x : Via) : Byte × Via := (x.ierByte, x)

/-- WRITE_REG RS10 (R170). -/
def Via.writeSr (x : Via) (d : Byte) : Via := { x with sr := d }

/-- WRITE_REG RS11 (R172). -/
def Via.writeAcr (x : Via) (d : Byte) : Via := { x with acr := d }

/-- The level a three-bit PCR field leaves its line at (R45, R174): 0b110 forces low, 0b111 forces high, any
other value leaves the line as it was. -/
def forcedLevel (field : BitVec 3) (line : Bool) : Bool :=
  if field = 0b110#3 then false else if field = 0b111#3 then true else line

/-- WRITE_REG RS12 (R174). -/
def Via.writePcr (x : Via) (d : Byte) : Via :=
  { x with
    pcr := d
    ca2 := forcedLevel (d.extractLsb' 1 3) x.ca2
    cb2 := forcedLevel (d.extractLsb' 5 3) x.cb2 }

/-- WRITE_REG RS13 (R176): each written 1 clears its flag; d[7] is ignored. -/
def Via.writeIfr (x : Via) (d : Byte) : Via := x.dropFlags (mask7 d)

/-- WRITE_REG RS14 (R178): d[7] selects enable or disable. -/
def Via.writeIer (x : Via) (d : Byte) : Via :=
  { x with ier := if d.getLsbD 7 then x.ier ||| mask7 d else x.ier &&& ~~~mask7 d }

/-- RD_SR (R171). -/
def execRdSr (v : ViaId) (s : State) : Host.Outcome State Fault Refusal :=
  .next (s.readCall v Via.readSr)

/-- RD_ACR (R173). -/
def execRdAcr (v : ViaId) (s : State) : Host.Outcome State Fault Refusal :=
  .next (s.readCall v Via.readAcr)

/-- RD_PCR (R175). -/
def execRdPcr (v : ViaId) (s : State) : Host.Outcome State Fault Refusal :=
  .next (s.readCall v Via.readPcr)

/-- RD_IFR (R177). -/
def execRdIfr (v : ViaId) (s : State) : Host.Outcome State Fault Refusal :=
  .next (s.readCall v Via.readIfr)

/-- RD_IER (R179). -/
def execRdIer (v : ViaId) (s : State) : Host.Outcome State Fault Refusal :=
  .next (s.readCall v Via.readIer)

/-- WR_SR (R170). -/
def execWrSr (v : ViaId) (d : Byte) (s : State) : Host.Outcome State Fault Refusal :=
  .next (s.writeCall v (·.writeSr d))

/-- WR_ACR (R172). -/
def execWrAcr (v : ViaId) (d : Byte) (s : State) : Host.Outcome State Fault Refusal :=
  .next (s.writeCall v (·.writeAcr d))

/-- WR_PCR (R174). -/
def execWrPcr (v : ViaId) (d : Byte) (s : State) : Host.Outcome State Fault Refusal :=
  .next (s.writeCall v (·.writePcr d))

/-- WR_IFR (R176). -/
def execWrIfr (v : ViaId) (d : Byte) (s : State) : Host.Outcome State Fault Refusal :=
  .next (s.writeCall v (·.writeIfr d))

/-- WR_IER (R178). -/
def execWrIer (v : ViaId) (d : Byte) (s : State) : Host.Outcome State Fault Refusal :=
  .next (s.writeCall v (·.writeIer d))

end Sys2Proof.Machine
end

