-- ==== Sys2Proof/Machine/TimerRegs.lean ====
section
/-! DEFINITION. The timer registers RS4 to RS9 (spec/42_via_timer_registers.md): what each read and write does
to one instance, and the VIAOP calls that do it. -/

namespace Sys2Proof.Machine

open Sys2Proof

/-- READ_REG RS4 (R151): the counter's low byte, then acknowledge T1. -/
def Via.readT1cL (x : Via) : Byte × Via := (loByte x.t1c, x.dropFlags flagT1)

/-- READ_REG RS5 (R153). -/
def Via.readT1cH (x : Via) : Byte × Via := (hiByte x.t1c, x)

/-- READ_REG RS6 (R155). -/
def Via.readT1lL (x : Via) : Byte × Via := (loByte x.t1l, x)

/-- READ_REG RS7 (R157). -/
def Via.readT1lH (x : Via) : Byte × Via := (hiByte x.t1l, x)

/-- READ_REG RS8 (R159): the counter's low byte, then acknowledge T2. -/
def Via.readT2cL (x : Via) : Byte × Via := (loByte x.t2c, x.dropFlags flagT2)

/-- READ_REG RS9 (R161). -/
def Via.readT2cH (x : Via) : Byte × Via := (hiByte x.t2c, x)

/-- WRITE_REG RS4 (R150): the latch's low byte. -/
def Via.writeT1cL (x : Via) (d : Byte) : Via := { x with t1l := withLo x.t1l d }

/-- WRITE_REG RS5 (R152): the latch's high byte, then the counter takes the latch and T1 restarts. -/
def Via.writeT1cH (x : Via) (d : Byte) : Via :=
  ({ x with t1l := withHi x.t1l d, t1c := withHi x.t1l d, t1fired := false } : Via).dropFlags flagT1

/-- WRITE_REG RS6 (R154). -/
def Via.writeT1lL (x : Via) (d : Byte) : Via := { x with t1l := withLo x.t1l d }

/-- WRITE_REG RS7 (R156): the counter and the fired flag stay. -/
def Via.writeT1lH (x : Via) (d : Byte) : Via :=
  ({ x with t1l := withHi x.t1l d } : Via).dropFlags flagT1

/-- WRITE_REG RS8 (R158). -/
def Via.writeT2cL (x : Via) (d : Byte) : Via := { x with t2l := d }

/-- WRITE_REG RS9 (R160, R95 (b)): the counter takes the byte over the latch and T2 restarts. -/
def Via.writeT2cH (x : Via) (d : Byte) : Via :=
  ({ x with t2c := d ++ x.t2l, t2fired := false } : Via).dropFlags flagT2

/-- RD_T1C_L (R151). -/
def execRdT1cL (v : ViaId) (s : State) : Host.Outcome State Fault Refusal :=
  .next (s.readCall v Via.readT1cL)

/-- RD_T1C_H (R153). -/
def execRdT1cH (v : ViaId) (s : State) : Host.Outcome State Fault Refusal :=
  .next (s.readCall v Via.readT1cH)

/-- RD_T1L_L (R155). -/
def execRdT1lL (v : ViaId) (s : State) : Host.Outcome State Fault Refusal :=
  .next (s.readCall v Via.readT1lL)

/-- RD_T1L_H (R157). -/
def execRdT1lH (v : ViaId) (s : State) : Host.Outcome State Fault Refusal :=
  .next (s.readCall v Via.readT1lH)

/-- RD_T2C_L (R159). -/
def execRdT2cL (v : ViaId) (s : State) : Host.Outcome State Fault Refusal :=
  .next (s.readCall v Via.readT2cL)

/-- RD_T2C_H (R161). -/
def execRdT2cH (v : ViaId) (s : State) : Host.Outcome State Fault Refusal :=
  .next (s.readCall v Via.readT2cH)

/-- WR_T1C_L (R150). -/
def execWrT1cL (v : ViaId) (d : Byte) (s : State) : Host.Outcome State Fault Refusal :=
  .next (s.writeCall v (·.writeT1cL d))

/-- WR_T1C_H (R152). -/
def execWrT1cH (v : ViaId) (d : Byte) (s : State) : Host.Outcome State Fault Refusal :=
  .next (s.writeCall v (·.writeT1cH d))

/-- WR_T1L_L (R154). -/
def execWrT1lL (v : ViaId) (d : Byte) (s : State) : Host.Outcome State Fault Refusal :=
  .next (s.writeCall v (·.writeT1lL d))

/-- WR_T1L_H (R156). -/
def execWrT1lH (v : ViaId) (d : Byte) (s : State) : Host.Outcome State Fault Refusal :=
  .next (s.writeCall v (·.writeT1lH d))

/-- WR_T2C_L (R158). -/
def execWrT2cL (v : ViaId) (d : Byte) (s : State) : Host.Outcome State Fault Refusal :=
  .next (s.writeCall v (·.writeT2cL d))

/-- WR_T2C_H (R160). -/
def execWrT2cH (v : ViaId) (d : Byte) (s : State) : Host.Outcome State Fault Refusal :=
  .next (s.writeCall v (·.writeT2cH d))

end Sys2Proof.Machine
end

