-- ==== Sys2Proof/Machine/RegisterFile.lean ====
section
/-! DEFINITION. READ_REG and WRITE_REG by register index (spec/30_encoding.md R92): what a bus read calls in the
bus phase (R117) and what the drain calls in the dispatch phase (R233). -/

namespace Sys2Proof.Machine

open Sys2Proof

/-- READ_REG(via[v], rs) (R92): the byte returned and the instance left. -/
def Via.readReg (x : Via) : Reg → Byte × Via
  | .orbIrb => x.readOrbIrb
  | .oraIra => x.readOraIra
  | .ddrb => x.readDdrb
  | .ddra => x.readDdra
  | .t1cL => x.readT1cL
  | .t1cH => x.readT1cH
  | .t1lL => x.readT1lL
  | .t1lH => x.readT1lH
  | .t2cL => x.readT2cL
  | .t2cH => x.readT2cH
  | .sr => x.readSr
  | .acr => x.readAcr
  | .pcr => x.readPcr
  | .ifr => x.readIfr
  | .ier => x.readIer
  | .oraIraNh => x.readOraIraNh

/-- WRITE_REG(via[v], rs, d) (R92). -/
def Via.writeReg (x : Via) (r : Reg) (d : Byte) : Via :=
  match r with
  | .orbIrb => x.writeOrb d
  | .oraIra => x.writeOra d
  | .ddrb => x.writeDdrb d
  | .ddra => x.writeDdra d
  | .t1cL => x.writeT1cL d
  | .t1cH => x.writeT1cH d
  | .t1lL => x.writeT1lL d
  | .t1lH => x.writeT1lH d
  | .t2cL => x.writeT2cL d
  | .t2cH => x.writeT2cH d
  | .sr => x.writeSr d
  | .acr => x.writeAcr d
  | .pcr => x.writePcr d
  | .ifr => x.writeIfr d
  | .ier => x.writeIer d
  | .oraIraNh => x.writeOraNh d

end Sys2Proof.Machine
end

