-- ==== Sys2Proof/Machine/BusCycles.lean ====
section
/-! DEFINITION. The two bus cycles through the page dispatcher (spec/40_bus_cycles.md): the bus phase of a tick
(R231). The dispatch phase that follows is Machine/Protocol.lean's. -/

namespace Sys2Proof.Machine

open Sys2Proof

/-- rdPlain (R118): the stored byte. -/
def State.rdPlain (s : State) (a : Addr) : State := { s with result := .byte (s.mem.read a) }

/-- rdVia (R117): READ_REG at once, with its side effects. -/
def State.rdVia (s : State) (v : ViaId) (r : Reg) : State := s.readCall v (·.readReg r)

/-- A read of an UNMAPPED address (R115): the placeholder, and no side effect. -/
def State.rdUnmapped (s : State) : State := { s with result := .byte s.setup.ioUnmappedRead }

/-- BUS_RD (R110). -/
def State.busRd (s : State) (a : Addr) : State :=
  match classify s.pt a with
  | .ram => s.rdPlain a
  | .rom => s.rdPlain a
  | .mappedIO =>
    match ioDecode s.setup a with
    | some (v, r) => s.rdVia v r
    | none => s.rdUnmapped

/-- wrRam (R112), and the MEM store of wrIo and wrIoUnmapped (R113, R116). -/
def State.storeByte (s : State) (a : Addr) (d : Byte) : State := { s with mem := s.mem.write a d }

/-- BUS_WR (R111), without the result field: RAM stores (R112), ROM does nothing (R114), MappedIO stores and
posts when its ioDecode is an instance (R113), or only stores (R116). -/
def State.busWrStore (s : State) (a : Addr) (d : Byte) : State :=
  match classify s.pt a with
  | .ram => s.storeByte a d
  | .rom => s
  | .mappedIO =>
    match ioDecode s.setup a with
    | some _ => (s.storeByte a d).enqueue a d
    | none => s.storeByte a d

/-- BUS_WR (R111): nothing is returned to the Bus Driver. -/
def State.busWr (s : State) (a : Addr) (d : Byte) : State :=
  { s.busWrStore a d with result := .none }

/-- BUS_PHASE (R231): exactly one bus cycle, `isRead` selecting which. -/
def State.busPhase (s : State) (a : Addr) (isRead : Bool) (d : Byte) : State :=
  if isRead then s.busRd a else s.busWr a d

/-- BUS_RD (R110): the bus phase alone. -/
def execBusRd (a : Addr) (s : State) : Host.Outcome State Fault Refusal := .next (s.busRd a)

/-- BUS_WR (R111): the bus phase alone. -/
def execBusWr (a : Addr) (d : Byte) (s : State) : Host.Outcome State Fault Refusal :=
  .next (s.busWr a d)

end Sys2Proof.Machine
end

