-- ==== Sys2Proof/Machine/Lines.lean ====
section
/-! DEFINITION. Line-level and port-level access, and RESET (spec/45_via_lines_and_reset.md). -/

namespace Sys2Proof.Machine

open Sys2Proof

/-- RESET (R218): every field 0. -/
def Via.afterReset (_ : Via) : Via := Via.zero

/-- GET_LINE (R214): the line's value, at no effect (R217). -/
def State.getLine (s : State) (v : ViaId) (l : Line) : State :=
  s.callReturns v (.bit ((s.via v).line l)) (s.via v)

/-- GET_PORT (R216): the port's value, at no effect (R217). -/
def State.getPort (s : State) (v : ViaId) (p : Port) : State :=
  s.callReturns v (.byte ((s.via v).port p)) (s.via v)

/-- RESET (R218). -/
def execReset (v : ViaId) (s : State) : Host.Outcome State Fault Refusal :=
  .next (s.writeCall v Via.afterReset)

/-- SET_CA1 (R210). -/
def execSetCa1 (v : ViaId) (b : Bool) (s : State) : Host.Outcome State Fault Refusal :=
  .next (s.writeCall v (·.setLine .ca1 b))

/-- SET_CA2 (R210). -/
def execSetCa2 (v : ViaId) (b : Bool) (s : State) : Host.Outcome State Fault Refusal :=
  .next (s.writeCall v (·.setLine .ca2 b))

/-- SET_CB1 (R210). -/
def execSetCb1 (v : ViaId) (b : Bool) (s : State) : Host.Outcome State Fault Refusal :=
  .next (s.writeCall v (·.setLine .cb1 b))

/-- SET_CB2 (R210). -/
def execSetCb2 (v : ViaId) (b : Bool) (s : State) : Host.Outcome State Fault Refusal :=
  .next (s.writeCall v (·.setLine .cb2 b))

/-- SET_PA (R212). -/
def execSetPa (v : ViaId) (d : Byte) (s : State) : Host.Outcome State Fault Refusal :=
  .next (s.writeCall v (·.setPort .a d))

/-- SET_PB (R212). -/
def execSetPb (v : ViaId) (d : Byte) (s : State) : Host.Outcome State Fault Refusal :=
  .next (s.writeCall v (·.setPort .b d))

/-- GET_CA1 (R214). -/
def execGetCa1 (v : ViaId) (s : State) : Host.Outcome State Fault Refusal :=
  .next (s.getLine v .ca1)

/-- GET_CA2 (R214). -/
def execGetCa2 (v : ViaId) (s : State) : Host.Outcome State Fault Refusal :=
  .next (s.getLine v .ca2)

/-- GET_CB1 (R214). -/
def execGetCb1 (v : ViaId) (s : State) : Host.Outcome State Fault Refusal :=
  .next (s.getLine v .cb1)

/-- GET_CB2 (R214). -/
def execGetCb2 (v : ViaId) (s : State) : Host.Outcome State Fault Refusal :=
  .next (s.getLine v .cb2)

/-- GET_PA (R216). -/
def execGetPa (v : ViaId) (s : State) : Host.Outcome State Fault Refusal :=
  .next (s.getPort v .a)

/-- GET_PB (R216). -/
def execGetPb (v : ViaId) (s : State) : Host.Outcome State Fault Refusal :=
  .next (s.getPort v .b)

end Sys2Proof.Machine
end

