-- ==== Sys2Proof/Machine/Tick.lean ====
section
/-! DEFINITION. TICK: the timer reload state machine, the edge handler of CA1 and CB1, and the interrupt
summary (spec/44_via_tick.md). -/

namespace Sys2Proof.Machine

open Sys2Proof

/-- The counter decremented by the count, as an exact integer (R190). -/
def countDown (c : Count) (n : Nat) : Int := (c.toNat : Int) - (n : Int)

/-- t1_step (R191): count down; at or below zero, reload in free-run mode, or expire once in one-shot mode,
or wrap with no flag when already fired. -/
def Via.t1Step (x : Via) (n : Nat) : Via :=
  let d := countDown x.t1c n
  if 0 < d then { x with t1c := BitVec.ofInt 16 d }
  else if x.acr.getLsbD 6 then
    ({ x with t1c := BitVec.ofInt 16 (d + x.t1l.toNat + 2) } : Via).raiseFlags flagT1
  else if x.t1fired = false then
    ({ x with t1c := BitVec.ofInt 16 (d + 0xFFFF), t1fired := true } : Via).raiseFlags flagT1
  else { x with t1c := BitVec.ofInt 16 d }

/-- t2_step (R192): held while ACR[5] = 1; else one-shot only. -/
def Via.t2Step (x : Via) (n : Nat) : Via :=
  let d := countDown x.t2c n
  if x.acr.getLsbD 5 then x
  else if 0 < d then { x with t2c := BitVec.ofInt 16 d }
  else if x.t2fired = false then
    ({ x with t2c := BitVec.ofInt 16 (d + 0xFFFF), t2fired := true } : Via).raiseFlags flagT2
  else { x with t2c := BitVec.ofInt 16 d }

/-- The CA1 half of edge_step (R193): a transition to the level PCR[0] names sets IFR[1]; the remembered value
is updated regardless. -/
def Via.edgeCa1 (x : Via) : Via :=
  if x.ca1 ≠ x.ca1Prev then
    ({ x with ca1Prev := x.ca1 } : Via).raiseFlags (if x.ca1 = x.pcr.getLsbD 0 then flagCa1 else 0#7)
  else x

/-- The CB1 half of edge_step (R193), with PCR[4] and IFR[4]. -/
def Via.edgeCb1 (x : Via) : Via :=
  if x.cb1 ≠ x.cb1Prev then
    ({ x with cb1Prev := x.cb1 } : Via).raiseFlags (if x.cb1 = x.pcr.getLsbD 4 then flagCb1 else 0#7)
  else x

/-- edge_step (R193). -/
def Via.edgeStep (x : Via) : Via := x.edgeCa1.edgeCb1

/-- What TICK n leaves of the instance (R190). -/
def Via.ticked (x : Via) (n : Nat) : Via := ((x.t1Step n).t2Step n).edgeStep

/-- TICK n (R190): the interrupt summary after all updates (R194), and the instance left. -/
def Via.tick (x : Via) (n : Nat) : Bool × Via := ((x.ticked n).irqPending, x.ticked n)

/-- TICK (R190). -/
def execTick (v : ViaId) (n : BitVec 12) (s : State) : Host.Outcome State Fault Refusal :=
  .next (s.callReturns v (.bit ((s.via v).tick n.toNat).1) ((s.via v).tick n.toNat).2)

end Sys2Proof.Machine
end

