-- ==== Sys2Proof/Machine/Dispatch.lean ====
section
/-! DEFINITION. One arm per operation of the opcode table, each a direct call of its meaning. -/

namespace Sys2Proof.Machine

open Sys2Proof

def exec (i : Instr) (s : State) : Host.Outcome State Fault Refusal :=
  match i with
  | .busRd a => Sys2Proof.Machine.execBusRd a s
  | .busWr a d => Sys2Proof.Machine.execBusWr a d s
  | .rdOrbIrb v => Sys2Proof.Machine.execRdOrbIrb v s
  | .rdOraIra v => Sys2Proof.Machine.execRdOraIra v s
  | .rdDdrb v => Sys2Proof.Machine.execRdDdrb v s
  | .rdDdra v => Sys2Proof.Machine.execRdDdra v s
  | .rdT1cL v => Sys2Proof.Machine.execRdT1cL v s
  | .rdT1cH v => Sys2Proof.Machine.execRdT1cH v s
  | .rdT1lL v => Sys2Proof.Machine.execRdT1lL v s
  | .rdT1lH v => Sys2Proof.Machine.execRdT1lH v s
  | .rdT2cL v => Sys2Proof.Machine.execRdT2cL v s
  | .rdT2cH v => Sys2Proof.Machine.execRdT2cH v s
  | .rdSr v => Sys2Proof.Machine.execRdSr v s
  | .rdAcr v => Sys2Proof.Machine.execRdAcr v s
  | .rdPcr v => Sys2Proof.Machine.execRdPcr v s
  | .rdIfr v => Sys2Proof.Machine.execRdIfr v s
  | .rdIer v => Sys2Proof.Machine.execRdIer v s
  | .rdOraIraNh v => Sys2Proof.Machine.execRdOraIraNh v s
  | .wrOrb v d => Sys2Proof.Machine.execWrOrb v d s
  | .wrOra v d => Sys2Proof.Machine.execWrOra v d s
  | .wrDdrb v d => Sys2Proof.Machine.execWrDdrb v d s
  | .wrDdra v d => Sys2Proof.Machine.execWrDdra v d s
  | .wrT1cL v d => Sys2Proof.Machine.execWrT1cL v d s
  | .wrT1cH v d => Sys2Proof.Machine.execWrT1cH v d s
  | .wrT1lL v d => Sys2Proof.Machine.execWrT1lL v d s
  | .wrT1lH v d => Sys2Proof.Machine.execWrT1lH v d s
  | .wrT2cL v d => Sys2Proof.Machine.execWrT2cL v d s
  | .wrT2cH v d => Sys2Proof.Machine.execWrT2cH v d s
  | .wrSr v d => Sys2Proof.Machine.execWrSr v d s
  | .wrAcr v d => Sys2Proof.Machine.execWrAcr v d s
  | .wrPcr v d => Sys2Proof.Machine.execWrPcr v d s
  | .wrIfr v d => Sys2Proof.Machine.execWrIfr v d s
  | .wrIer v d => Sys2Proof.Machine.execWrIer v d s
  | .wrOraNh v d => Sys2Proof.Machine.execWrOraNh v d s
  | .tick v n => Sys2Proof.Machine.execTick v n s
  | .reset v => Sys2Proof.Machine.execReset v s
  | .setCa1 v b => Sys2Proof.Machine.execSetCa1 v b s
  | .setCa2 v b => Sys2Proof.Machine.execSetCa2 v b s
  | .setCb1 v b => Sys2Proof.Machine.execSetCb1 v b s
  | .setCb2 v b => Sys2Proof.Machine.execSetCb2 v b s
  | .setPa v d => Sys2Proof.Machine.execSetPa v d s
  | .setPb v d => Sys2Proof.Machine.execSetPb v d s
  | .getCa1 v => Sys2Proof.Machine.execGetCa1 v s
  | .getCa2 v => Sys2Proof.Machine.execGetCa2 v s
  | .getCb1 v => Sys2Proof.Machine.execGetCb1 v s
  | .getCb2 v => Sys2Proof.Machine.execGetCb2 v s
  | .getPa v => Sys2Proof.Machine.execGetPa v s
  | .getPb v => Sys2Proof.Machine.execGetPb v s

end Sys2Proof.Machine
end

