-- ==== Sys2Proof/Machine/Protocol.lean ====
section
/-! DEFINITION. What happens around the operations within a tick (spec/46_tick_protocol.md): the drain, the
keyboard push, the TICKs and the interrupt request of the dispatch phase; the lock-step tick; the relaxed
mode's steps. -/

namespace Sys2Proof.Machine

open Sys2Proof

/-- One drained entry (R233, R234): WRITE_REG on the instance and register ioDecode names. -/
def State.applyEntry (s : State) (e : Entry) : State :=
  match ioDecode s.setup e.addr with
  | some (v, r) => s.setVia v ((s.via v).writeReg r e.data)
  | none => s

/-- DRAIN (R233): every entry, oldest first; MBOX is left empty. -/
def State.drain (s : State) : State := s.mbox.foldl State.applyEntry { s with mbox := [] }

/-- The OR of the rows whose number, counted from `r`, has its bit set in `sel` (R236). -/
def orRows (sel : Byte) : Nat → List Byte → Byte
  | _, [] => 0#8
  | r, row :: rest => (if sel.getLsbD r then row else 0#8) ||| orRows sel (r + 1) rest

/-- The byte KBD_PUSH returns for a select port value (R236). -/
def KeyMatrix.scan (m : KeyMatrix) (activeLow : Bool) (s : Byte) : Byte :=
  orRows (if activeLow then ~~~s else s) 0 m.rows.toList

/-- KBD_PUSH (R236). -/
def State.kbdPush (s : State) (m : KeyMatrix) : State :=
  let x := s.via s.setup.kbdVia
  s.setVia s.setup.kbdVia
    (x.setPort s.setup.kbdReturnPort
      (m.scan s.setup.kbdSelectActiveLow (x.port s.setup.kbdSelectPort)))

/-- KBD_PUSH when KBD_ENABLE holds, else nothing (R232, R236). -/
def State.kbdStep (s : State) (m : KeyMatrix) : State := if s.setup.kbdEnable then s.kbdPush m else s

/-- TICK n on every instance 1..VIA_COUNT (R232). -/
def State.tickVias (s : State) (n : Nat) : State :=
  { s with
    via1 := (s.via1.tick n).2
    via2 := if s.setup.viaCount = 2 then (s.via2.tick n).2 else s.via2 }

/-- The OR of the results of the TICKs of R232, for a state before them. -/
def State.tickResults (s : State) (n : Nat) : Bool :=
  (s.via1.tick n).1 || (if s.setup.viaCount = 2 then (s.via2.tick n).1 else false)

/-- DISPATCH_PHASE (R232) with cycle count `n`: 1 in lock-step, k in the relaxed mode (R241). -/
def State.dispatchPhase (s : State) (m : KeyMatrix) (n : Nat) : State :=
  let t := s.drain.kbdStep m
  { t.tickVias n with irq := t.tickResults n }

/-- TICKS <- TICKS + 1 (R230). -/
def State.countTick (s : State) : State := { s with ticks := s.ticks + 1 }

/-- What follows the bus phase of a tick: in lock-step the dispatch phase and the count (R230), in the relaxed
mode the count alone (R241, BUS_STEP). -/
def State.afterBusPhase (s : State) (m : KeyMatrix) : State :=
  if s.setup.lockstep then (s.dispatchPhase m 1).countTick else s.countTick

/-- The cycles one DISPATCH_STEP advances (R241). -/
def State.dispatchAdvance (s : State) : Nat :=
  match s.setup.tickAdvance with
  | .perTick => 1
  | .elapsed => s.ticks - s.dispatched

/-- A DISPATCH_STEP is allowed (R241). -/
def State.dispatchDue (s : State) : Bool := !s.setup.lockstep && decide (s.dispatched < s.ticks)

/-- DISPATCH_STEP (R241). -/
def State.dispatchStep (s : State) (m : KeyMatrix) : State :=
  let k := s.dispatchAdvance
  { s.dispatchPhase m k with dispatched := s.dispatched + k }

/-- The flags TICK can set (R191 to R193): T1, T2, CB1 and CA1. -/
def tickFlags : Flags := flagT1 ||| flagT2 ||| flagCb1 ||| flagCa1

/-- The instance after an overlapped read (R242). A read that acknowledges shares IFR with the dispatch, whose
update either side may lose: every flag that was set before or that TICK can set is free, and a flag that
nothing could have set stays 0. A read that does not acknowledge leaves the dispatch's IFR.
DESIGN CHOICE (log 9). -/
def Via.raced (after before : Via) (r : Reg) (free : Flags) : Via :=
  if readAckMask r = 0#7 then after
  else { after with ifr := free &&& (before.ifr ||| tickFlags) }

/-- A bus read of register `r` of instance `v` that overlaps a DISPATCH_STEP (R242, U3): the byte is any value,
the flags are those of `Via.raced`, IRQ follows them, and everything else is as in the two steps one after the
other, the DISPATCH_STEP first and the bus step's count second. The spec leaves that order open (R11, R242); under
ELAPSED it leaves the overlapped tick out of k. DESIGN CHOICE (log 9). -/
def State.overlapStep (s : State) (v : ViaId) (r : Reg) (m : KeyMatrix) : State :=
  let t := (s.dispatchStep m).countTick
  let u := t.setVia v ((t.via v).raced (s.via v) r (Config.freeFlags s.draws))
  { u.driveIrq with result := .byte (Config.freeByte s.draws), draws := s.draws + 1 }

/-- Shutdown's forced extra dispatch quantum (R243), after the run: one more dispatch phase, and no input is
taken after it. TICKS stays (log 8). -/
def State.shutdownQuantum (s : State) (m : KeyMatrix) : State :=
  { s.dispatchPhase m 1 with inputs := [] }

/-- A host event (R235): a line or port setter, RESET, or a getter, on one instance. -/
inductive HostEvent where
  | setLine (v : ViaId) (l : Line) (b : Bool)
  | setPort (v : ViaId) (p : Port) (d : Byte)
  | reset (v : ViaId)
  | getLine (v : ViaId) (l : Line)
  | getPort (v : ViaId) (p : Port)
deriving DecidableEq, Repr

/-- What a host event does (R210, R212, R214, R216, R218). -/
def HostEvent.apply (s : State) : HostEvent → State
  | .setLine v l b => s.writeCall v (·.setLine l b)
  | .setPort v p d => s.writeCall v (·.setPort p d)
  | .reset v => s.writeCall v Via.afterReset
  | .getLine v l => s.getLine v l
  | .getPort v p => s.getPort v p

/-- The operation a host event is (R101). -/
def HostEvent.toInstr : HostEvent → Instr
  | .setLine v l b => setLineInstr v b l
  | .setPort v p d => setPortInstr v d p
  | .reset v => .reset v
  | .getLine v l => getLineInstr v l
  | .getPort v p => getPortInstr v p

/-- The inputs of one tick (R230): the host events before it, its bus cycle and its matrix. -/
structure TickInput where
  host : List HostEvent
  addr : Addr
  isRead : Bool
  data : Byte
  matrix : KeyMatrix
deriving DecidableEq, Repr

/-- TICK_STEP of the lock-step mode, as R230 writes it: host events, bus phase, dispatch phase, TICKS. -/
def State.tickStep (s : State) (ti : TickInput) : State :=
  (((ti.host.foldl HostEvent.apply s).busPhase ti.addr ti.isRead ti.data).dispatchPhase ti.matrix 1).countTick

/-- The bus cycle of a tick, as an operation (R90). -/
def TickInput.cycle (ti : TickInput) : Instr :=
  if ti.isRead then .busRd ti.addr else .busWr ti.addr ti.data

/-- A word on its channel, as an input of the block; a call has no use for the matrix. -/
def offered (m : KeyMatrix) : ChanWord → Input
  | .bus w => .bus w m
  | .call v w => .call v w

/-- The inputs of one tick, one by one, in the order R230 takes them. -/
def TickInput.inputs (ti : TickInput) : List Input :=
  ti.host.map (fun e => offered ti.matrix (encode e.toInstr)) ++
    [offered ti.matrix (encode ti.cycle)]

end Sys2Proof.Machine
end

