-- ==== Sys2Proof/Machine/Setup.lean ====
section
/-! DEFINITION. Which setup parameters are refused (spec/60_exceptions.md R263). A PAGE_TABLE entry that is not
RAM, ROM or MappedIO cannot be written down: `PageTag` has no other value. -/

namespace Sys2Proof

/-- KBD_VIA > VIA_COUNT (R263), for a VIA_COUNT in 1, 2. -/
def Setup.kbdViaTooHigh (p : Setup) : Bool := p.kbdVia == .via2 && p.viaCount == 1

/-- The SetupFailure of a setup (R251, R263), or none when a model must accept it. -/
def Setup.check (p : Setup) : Option Machine.SetupFailure :=
  if p.viaCount ≠ 1 ∧ p.viaCount ≠ 2 then some .viaCount
  else if p.via1Block = p.via2Block then some .sameBlock
  else if p.mailboxCapacity < 1 then some .mailboxCapacity
  else if p.kbdEnable ∧ p.kbdReturnPort = p.kbdSelectPort then some .kbdPorts
  else if p.kbdEnable ∧ p.kbdViaTooHigh then some .kbdVia
  else none

end Sys2Proof
end

