-- ==== Sys2Proof/Machine/Inputs.lean ====
section
/-! DEFINITION. How the block takes its next input: a word is decoded on its channel and its operation run, and
the tick that a bus cycle belongs to is completed around it (spec/46_tick_protocol.md R230, R235, R241). -/

namespace Sys2Proof.Machine

open Sys2Proof

/-- Run `exec` of a decoded word, or refuse it by name (R97). -/
def runDecoded (c : Decoded) (s : State) : Host.Outcome State Fault Refusal :=
  match c with
  | .ok i => exec i s
  | .error e => .refused (.reservedWord e)

/-- Complete the tick after its bus phase (R230, R241). -/
def completeTick (m : KeyMatrix) (o : Host.Outcome State Fault Refusal) :
    Host.Outcome State Fault Refusal :=
  match o with
  | .next t => .next (t.afterBusPhase m)
  | .fault f => .fault f
  | .refused r => .refused r

/-- The VIA register a bus word reads, when it is a read of one (R117). -/
def viaRead (s : State) (w : BusWord) : Option (ViaId × Reg) :=
  match decodeBus w with
  | .busRd a =>
    match classify s.pt a with
    | .mappedIO => ioDecode s.setup a
    | .ram => none
    | .rom => none
  | _ => none

/-- A DISPATCH_STEP where R241 allows one. -/
def runDispatch (m : KeyMatrix) (s : State) : Host.Outcome State Fault Refusal :=
  if s.dispatchDue then .next (s.dispatchStep m) else .refused .dispatchNotDue

/-- An overlapped bus read where R242 describes one: the relaxed mode, a dispatch due, a VIA register read. -/
def runOverlap (w : BusWord) (m : KeyMatrix) (s : State) : Host.Outcome State Fault Refusal :=
  match s.dispatchDue, viaRead s w with
  | true, some (v, r) => .next (s.overlapStep v r m)
  | true, none => .refused .noOverlap
  | false, _ => .refused .noOverlap

/-- Take one input. -/
def runInput (e : Input) (s : State) : Host.Outcome State Fault Refusal :=
  match e with
  | .bus w m => completeTick m (runDecoded (decode (.bus w)) s)
  | .call v w => runDecoded (decode (.call v w)) s
  | .dispatch m => runDispatch m s
  | .overlap w m => runOverlap w m s
  | .shutdown m => .next (s.shutdownQuantum m)
  | .lateCycle => .refused .missedBudget

/-- Take the next input offered; with none, the state survives unchanged (R264). -/
def runNext (s : State) : Host.Outcome State Fault Refusal :=
  match s.inputs with
  | [] => .next s
  | e :: rest => runInput e { s with inputs := rest }

/-- One step: a setup R263 refuses has no run (R251); else the next input is taken. -/
def runStep (s : State) : Host.Outcome State Fault Refusal :=
  match s.setup.check with
  | some f => .refused (.setupFailure f)
  | none => runNext s

/-- The state with a word on its channel offered first. A bus word is offered with the all-zero matrix: the spec
makes the matrix an input of the run (R230, R236), and a word alone has none. DESIGN CHOICE (log 6). -/
def State.offer (s : State) (c : ChanWord) : State :=
  { s with inputs := offered KeyMatrix.zero c :: s.inputs }

/-- The state with a table word offered first (log 6); a value that no format has a word for changes nothing. -/
def State.offerTableWord (s : State) (nbits w : Nat) : State :=
  match wordOnChannel nbits w with
  | some c => s.offer c
  | none => s

/-- What one tick shows outside (R287): the byte BUS_RD returned, if it was one, and IRQ after the tick. -/
structure TickView where
  read : Option Byte
  irq : Bool
deriving DecidableEq, Repr

/-- The byte the last operation returned, if it returned one. -/
def State.returnedByte (s : State) : Option Byte :=
  match s.result with
  | .byte b => some b
  | .bit _ => none
  | .none => none

/-- The view of a tick from the state after it (R287). -/
def State.tickView (s : State) : TickView := ⟨s.returnedByte, s.irq⟩

/-- A run of the lock-step mode (R19, R287): its ticks in order, the view of each, and the end state. -/
def State.runTicks : State → List TickInput → List TickView × State
  | s, [] => ([], s)
  | s, ti :: rest =>
    let t := s.tickStep ti
    let r := t.runTicks rest
    (t.tickView :: r.1, r.2)

end Sys2Proof.Machine
end

