-- ==== Sys2Proof/Machine/Step.lean ====
section
/-! DEFINITION. The step of the block, and the placing of a table word where the step takes its next input. -/

namespace Sys2Proof.Machine

/-- One step: take the next input the environment has offered (Machine/Inputs.lean). -/
def step (s : State) : Host.Outcome State Fault Refusal := runStep s

/-- The state with the table word offered next, a BUS word with the all-zero matrix: DESIGN CHOICE (log 6). -/
def State.withFetchWord (s : State) (nbits w : Nat) : State := s.offerTableWord nbits w

end Sys2Proof.Machine
end

