-- ==== Sys2Proof/Safety.lean ====
section
/-! DEFINITION. What counts as a safe state and an admitted input, in the terms the claims use. -/

namespace Sys2Proof.Machine

open Sys2Proof

/-- The fields of an instance that nothing sets: IFR[3], IFR[2], IFR[0] (R41, U13) and CA2_PREV, CB2_PREV
(R40, U14) keep their reset value 0. -/
structure Via.Quiet (x : Via) : Prop where
  unraised : x.ifr &&& 0b0001101#7 = 0#7
  ca2Prev : x.ca2Prev = false
  cb2Prev : x.cb2Prev = false

/-- The invariant of the block: the memory is canonical, the setup is one R263 accepts, the mailbox is within
its capacity (R47), holds only mapped writes (R75) and is empty between inputs in lock-step (R74), DISPATCHED
is at most TICKS (R241), and both instances are quiet where nothing sets them. -/
structure State.Inv (s : State) : Prop where
  memory : s.mem.wf = true
  setup : s.setup.check = none
  fits : s.mbox.length ≤ s.setup.mailboxCapacity
  mapped : ∀ e ∈ s.mbox, classify s.pt e.addr = .mappedIO ∧ (ioDecode s.setup e.addr).isSome = true
  lockstep : s.setup.lockstep = true → s.mbox = []
  caughtUp : s.dispatched ≤ s.ticks
  quiet1 : s.via1.Quiet
  quiet2 : s.via2.Quiet

/-- The instance is decoded and ticked: it is one of 1..VIA_COUNT (R8, R232). -/
def isTicked (p : Setup) : ViaId → Bool
  | .via1 => true
  | .via2 => decide (p.viaCount = 2)

/-- The input is one the environment may offer in this state (R97, R235, R241, R242, R252). -/
def State.admits (s : State) : Input → Bool
  | .bus _ _ => true
  | .call v w => (decodeViaop v w).isOk
  | .dispatch _ => s.dispatchDue
  | .overlap w _ => s.dispatchDue && (viaRead s w).isSome
  | .shutdown _ => true
  | .lateCycle => false

/-- The next input, if there is one, is admitted. -/
def State.Admitted (s : State) : Prop := ∀ e rest, s.inputs = e :: rest → s.admits e = true

/-- A step answers a next state. -/
def State.CanStep (s : State) : Prop := ∃ t, step s = .next t

/-- The mailbox capacity of the setup replaced: what R74 says cannot be observed in lock-step. -/
def State.withCapacity (s : State) (c : Nat) : State :=
  { s with setup := { s.setup with mailboxCapacity := c } }

/-- The state as one of the lock-step mode, which has no DISPATCHED: how a relaxed state compares with one of the
lock-step mode (R241). -/
def State.asLockstep (s : State) : State :=
  { s with setup := { s.setup with lockstep := true }, dispatched := 0 }

end Sys2Proof.Machine
end

