-- ==== Sys2Proof/Certificates/Slice0/Obligations.lean ====
section
/-! DEFINITION. The statements about the block, from the numbered rules of spec/. Each docstring names the rule
it states, or the file it rests on. A statement about one operation gives the whole next state, so that
what the operation leaves unchanged is part of it. -/

open Sys2Proof Sys2Proof.Machine

/-! ### Encoding (spec/30_encoding.md) -/

/-- Decoding the encoding of a well-formed operation gives the operation (R91, R93). -/
def Obligations.DecodeOfEncodeIsTheOperation : Prop :=
  ∀ i : Instr, i.wf = true → decode (encode i) = .ok i

/-- The table of R101: the decoder accepts exactly the words of the table's rows, TICK with n ≠ 0, each as an
operation of that row; and no two rows of one format match the same word. -/
def Obligations.DecoderAcceptsExactlyTheTableRows : Prop :=
  (∀ v w i, decodeViaop v w = .ok i →
    i.wf = true ∧ ∃ r ∈ viaopTable, r.holds w = true ∧ r.mnemonic = i.mnemonic) ∧
  (∀ v w r, r ∈ viaopTable → r.holds w = true →
    (r.mnemonic = "TICK" → w.extractLsb' 0 12 ≠ 0#12) →
    ∃ i, decodeViaop v w = .ok i ∧ i.mnemonic = r.mnemonic) ∧
  (∀ w, ∃ r ∈ busTable, r.holds w = true ∧ r.mnemonic = (decodeBus w).mnemonic) ∧
  (∀ w r r', r ∈ viaopTable → r' ∈ viaopTable → r.holds w = true → r'.holds w = true → r = r') ∧
  (∀ w r r', r ∈ busTable → r' ∈ busTable → r.holds w = true → r'.holds w = true → r = r')

/-- Words written out from R91 and R93, one or more of each family, decode to the operations they stand for. -/
def Obligations.WrittenOutWordsDecode : Prop :=
  decode (.bus 0x0911B40#25) = .ok (.busWr 0x911B#16 0x40#8) ∧
  decode (.bus 0x1910400#25) = .ok (.busRd 0x9104#16) ∧
  decode (.call .via1 0x1F00#16) = .ok (.rdOraIraNh .via1) ∧
  decode (.call .via2 0x0512#16) = .ok (.wrT1cH .via2 0x12#8) ∧
  decode (.call .via1 0x0CED#16) = .ok (.wrPcr .via1 0xED#8) ∧
  decode (.call .via1 0x1D00#16) = .ok (.rdIfr .via1) ∧
  decode (.call .via2 0x2FFF#16) = .ok (.tick .via2 4095#12) ∧
  decode (.call .via1 0x3000#16) = .ok (.reset .via1) ∧
  decode (.call .via1 0x4301#16) = .ok (.setCb2 .via1 true) ∧
  decode (.call .via1 0x51F0#16) = .ok (.setPb .via1 0xF0#8) ∧
  decode (.call .via2 0x6100#16) = .ok (.getCa2 .via2) ∧
  decode (.call .via1 0x7100#16) = .ok (.getPb .via1)

/-- R97: a word whose OP is 8 or more is refused as ReservedClass, one with a bit set that must be 0 as
ReservedBits, and a TICK with n = 0 is refused; and a step that is offered a refused word refuses. -/
def Obligations.ReservedWordsAreRefused : Prop :=
  (∀ (v : ViaId) (w : OpWord),
    (8 ≤ (w.extractLsb' 12 4).toNat → decodeViaop v w = .error .reservedClass) ∧
    ((w.extractLsb' 12 4).toNat = 1 → w.extractLsb' 0 8 ≠ 0#8 →
      decodeViaop v w = .error .reservedBits) ∧
    ((w.extractLsb' 12 4).toNat = 2 → w.extractLsb' 0 12 = 0#12 →
      ∃ e, decodeViaop v w = .error e) ∧
    ((w.extractLsb' 12 4).toNat = 3 → w.extractLsb' 0 12 ≠ 0#12 →
      decodeViaop v w = .error .reservedBits) ∧
    ((w.extractLsb' 12 4).toNat = 4 → (w.extractLsb' 10 2 ≠ 0#2 ∨ w.extractLsb' 1 7 ≠ 0#7) →
      decodeViaop v w = .error .reservedBits) ∧
    ((w.extractLsb' 12 4).toNat = 5 → w.extractLsb' 9 3 ≠ 0#3 →
      decodeViaop v w = .error .reservedBits) ∧
    ((w.extractLsb' 12 4).toNat = 6 → (w.extractLsb' 10 2 ≠ 0#2 ∨ w.extractLsb' 0 8 ≠ 0#8) →
      decodeViaop v w = .error .reservedBits) ∧
    ((w.extractLsb' 12 4).toNat = 7 → (w.extractLsb' 9 3 ≠ 0#3 ∨ w.extractLsb' 0 8 ≠ 0#8) →
      decodeViaop v w = .error .reservedBits)) ∧
  (∀ (s : State) v w rest e, s.setup.check = none → s.inputs = .call v w :: rest →
    decodeViaop v w = .error e → step s = .refused (.reservedWord e))

/-- R91: every 25-bit value is a BUS word, bit 24 selects the direction, and the data of a read is ignored. -/
def Obligations.EveryBusWordIsACycle : Prop :=
  (∀ (a : Addr) (d : Byte), decodeBus (1#1 ++ (a ++ d)) = .busRd a) ∧
  (∀ (a : Addr) (d : Byte), decodeBus (0#1 ++ (a ++ d)) = .busWr a d) ∧
  (∀ w : BusWord, ∃ (r : BitVec 1) (a : Addr) (d : Byte), w = r ++ (a ++ d))

/-! ### The page dispatcher (spec/20_memory.md, spec/40_bus_cycles.md) -/

/-- R63: the block number selects the instance and the low nibble the register; a[15:8] plays no part. -/
def Obligations.IoDecodeSelectsByBlock : Prop :=
  ∀ (p : Setup) (a : Addr),
    (a.extractLsb' 4 4 = p.via1Block →
      ∃ r, ioDecode p a = some (.via1, r) ∧ r.bits = a.extractLsb' 0 4) ∧
    (a.extractLsb' 4 4 ≠ p.via1Block → a.extractLsb' 4 4 = p.via2Block → p.viaCount = 2 →
      ∃ r, ioDecode p a = some (.via2, r) ∧ r.bits = a.extractLsb' 0 4) ∧
    (a.extractLsb' 4 4 ≠ p.via1Block → ¬(a.extractLsb' 4 4 = p.via2Block ∧ p.viaCount = 2) →
      ioDecode p a = none) ∧
    (∀ b : Addr, b.extractLsb' 0 8 = a.extractLsb' 0 8 → ioDecode p b = ioDecode p a)

/-- R118: a read of a RAM or ROM page returns the stored byte and changes nothing. -/
def Obligations.PlainReadReturnsTheStoredByte : Prop :=
  ∀ (a : Addr) (s : State), classify s.pt a = .ram ∨ classify s.pt a = .rom →
    exec (.busRd a) s = .next { s with result := .byte (s.mem.read a) }

/-- R115: a read of an UNMAPPED MappedIO address returns IO_UNMAPPED_READ, 0xFF by default, and changes nothing.
-/
def Obligations.UnmappedReadReturnsThePlaceholder : Prop :=
  (∀ (a : Addr) (s : State), classify s.pt a = .mappedIO → ioDecode s.setup a = none →
    exec (.busRd a) s = .next { s with result := .byte s.setup.ioUnmappedRead }) ∧
  Setup.defaults.ioUnmappedRead = 0xFF#8

/-- R117: a read of a mapped address is READ_REG of the register, at once, with its byte and side effects. -/
def Obligations.MappedReadIsReadReg : Prop :=
  ∀ (a : Addr) (s : State) (v : ViaId) (r : Reg), classify s.pt a = .mappedIO →
    ioDecode s.setup a = some (v, r) →
    exec (.busRd a) s = exec (readInstr v r) s ∧ ∃ t b, exec (.busRd a) s = .next t ∧ t.result = .byte b

/-- R112: a write to a RAM page stores the byte and posts nothing; a read after it returns the byte (its last
clause, which the spec derives from R112 and R118). -/
def Obligations.RamWriteStoresTheByte : Prop :=
  ∀ (a : Addr) (d : Byte) (s : State), s.mem.wf = true → classify s.pt a = .ram →
    ∃ t, exec (.busWr a d) s = .next t ∧ t = { s with mem := t.mem, result := .none } ∧
      t.mem.read a = d ∧ (∀ b, b ≠ a → t.mem.read b = s.mem.read b) ∧
      exec (.busRd a) t = .next { t with result := .byte d }

/-- R114: a write to a ROM page changes no state; a read after it differs from the written value exactly when
the stored byte does (its last clause, which the spec derives from R114 and R118). -/
def Obligations.RomWriteChangesNothing : Prop :=
  ∀ (a : Addr) (d : Byte) (s : State), classify s.pt a = .rom →
    exec (.busWr a d) s = .next { s with result := .none } ∧
    ∃ t b, exec (.busRd a) { s with result := .none } = .next t ∧ t.result = .byte b ∧
      (b ≠ d ↔ s.mem.read a ≠ d)

/-- R113, with R73 for a full mailbox: a write to a mapped address stores the byte and posts (a, d) at the tail,
after discarding the oldest entry of a full mailbox; no instance is changed. -/
def Obligations.MappedWriteStoresAndPosts : Prop :=
  ∀ (a : Addr) (d : Byte) (s : State), s.mem.wf = true → classify s.pt a = .mappedIO →
    (ioDecode s.setup a).isSome = true →
    ∃ t, exec (.busWr a d) s = .next t ∧
      t = { s with mem := t.mem, mbox := t.mbox, result := .none } ∧
      t.mem.read a = d ∧ (∀ b, b ≠ a → t.mem.read b = s.mem.read b) ∧
      (s.mbox.length ≠ s.setup.mailboxCapacity → t.mbox = s.mbox ++ [⟨a, d⟩]) ∧
      (s.mbox.length = s.setup.mailboxCapacity → t.mbox = s.mbox.tail ++ [⟨a, d⟩])

/-- R116: a write to an UNMAPPED MappedIO address stores the byte and is otherwise dropped. -/
def Obligations.UnmappedWriteOnlyStores : Prop :=
  ∀ (a : Addr) (d : Byte) (s : State), s.mem.wf = true → classify s.pt a = .mappedIO →
    ioDecode s.setup a = none →
    ∃ t, exec (.busWr a d) s = .next t ∧ t = { s with mem := t.mem, result := .none } ∧
      t.mem.read a = d ∧ (∀ b, b ≠ a → t.mem.read b = s.mem.read b)

/-- Every image of the 64 Ki address space is one canonical memory, and only one (R22, R60; log 1): MEM_INIT can
be any image, so a statement about every state holds for every draw of it. -/
def Obligations.EveryImageIsOneCanonicalMemory : Prop :=
  (∀ f : Addr → Byte, ∃ m : Memory, m.wf = true ∧ ∀ a, m.read a = f a) ∧
  (∀ m m' : Memory, m.wf = true → m'.wf = true → (∀ a, m.read a = m'.read a) → m = m')

/-! ### Register calls (spec/41_via_port_registers.md to spec/43_via_control_registers.md) -/

/-- The reads of RS0, RS1, RS2, RS3 and RS15 (R130, R132, R139, R142, R140): word, byte returned, and the flags
acknowledged; everything else is unchanged. -/
def Obligations.PortRegisterReads : Prop :=
  ∀ (v : ViaId) (s : State),
    encode (.rdOrbIrb v) = .call v 0x1000#16 ∧
    exec (.rdOrbIrb v) s = .next
      { s.setVia v { s.via v with ifr := (s.via v).ifr &&& 0b1100111#7 } with
        result := .byte (((s.via v).pb &&& ~~~(s.via v).ddrb) ||| ((s.via v).orb &&& (s.via v).ddrb)) } ∧
    encode (.rdOraIra v) = .call v 0x1100#16 ∧
    exec (.rdOraIra v) s = .next
      { s.setVia v { s.via v with ifr := (s.via v).ifr &&& 0b1111100#7 } with
        result := .byte (s.via v).pa } ∧
    encode (.rdDdrb v) = .call v 0x1200#16 ∧
    exec (.rdDdrb v) s = .next { s with result := .byte (s.via v).ddrb } ∧
    encode (.rdDdra v) = .call v 0x1300#16 ∧
    exec (.rdDdra v) s = .next { s with result := .byte (s.via v).ddra } ∧
    encode (.rdOraIraNh v) = .call v 0x1F00#16 ∧
    exec (.rdOraIraNh v) s = .next { s with result := .byte (s.via v).pa }

/-- The writes of RS0, RS1, RS2, RS3 and RS15 (R131, R133, R137, R138, R141): word, the register, the port it
recomputes (R134, R136), and the flags acknowledged (R135); everything else is unchanged. -/
def Obligations.PortRegisterWrites : Prop :=
  ∀ (v : ViaId) (d : Byte) (s : State),
    encode (.wrOrb v d) = .call v (0x00#8 ++ d) ∧
    exec (.wrOrb v d) s = .next
      { s.setVia v { s.via v with
          orb := d
          ifr := (s.via v).ifr &&& 0b1100111#7
          pb := ((s.via v).pb &&& ~~~(s.via v).ddrb) ||| (d &&& (s.via v).ddrb) } with
        result := .none } ∧
    encode (.wrOra v d) = .call v (0x01#8 ++ d) ∧
    exec (.wrOra v d) s = .next
      { s.setVia v { s.via v with ifr := (s.via v).ifr &&& 0b1111100#7, ora := d, pa := d } with
        result := .none } ∧
    encode (.wrDdrb v d) = .call v (0x02#8 ++ d) ∧
    exec (.wrDdrb v d) s = .next
      { s.setVia v { s.via v with
          ddrb := d
          pb := ((s.via v).pb &&& ~~~d) ||| ((s.via v).orb &&& d) } with
        result := .none } ∧
    encode (.wrDdra v d) = .call v (0x03#8 ++ d) ∧
    exec (.wrDdra v d) s = .next
      { s.setVia v { s.via v with ddra := d, pa := (s.via v).ora } with result := .none } ∧
    encode (.wrOraNh v d) = .call v (0x0F#8 ++ d) ∧
    exec (.wrOraNh v d) s = .next
      { s.setVia v { s.via v with ora := d, pa := d } with result := .none }

/-- The reads of RS4 to RS9 (R151, R153, R155, R157, R159, R161). -/
def Obligations.TimerRegisterReads : Prop :=
  ∀ (v : ViaId) (s : State),
    encode (.rdT1cL v) = .call v 0x1400#16 ∧
    exec (.rdT1cL v) s = .next
      { s.setVia v { s.via v with ifr := (s.via v).ifr &&& 0b0111111#7 } with
        result := .byte ((s.via v).t1c.extractLsb' 0 8) } ∧
    encode (.rdT1cH v) = .call v 0x1500#16 ∧
    exec (.rdT1cH v) s = .next { s with result := .byte ((s.via v).t1c.extractLsb' 8 8) } ∧
    encode (.rdT1lL v) = .call v 0x1600#16 ∧
    exec (.rdT1lL v) s = .next { s with result := .byte ((s.via v).t1l.extractLsb' 0 8) } ∧
    encode (.rdT1lH v) = .call v 0x1700#16 ∧
    exec (.rdT1lH v) s = .next { s with result := .byte ((s.via v).t1l.extractLsb' 8 8) } ∧
    encode (.rdT2cL v) = .call v 0x1800#16 ∧
    exec (.rdT2cL v) s = .next
      { s.setVia v { s.via v with ifr := (s.via v).ifr &&& 0b1011111#7 } with
        result := .byte ((s.via v).t2c.extractLsb' 0 8) } ∧
    encode (.rdT2cH v) = .call v 0x1900#16 ∧
    exec (.rdT2cH v) s = .next { s with result := .byte ((s.via v).t2c.extractLsb' 8 8) }

/-- The writes of RS4 to RS9 (R150, R152, R154, R156, R158, R160). -/
def Obligations.TimerRegisterWrites : Prop :=
  ∀ (v : ViaId) (d : Byte) (s : State),
    encode (.wrT1cL v d) = .call v (0x04#8 ++ d) ∧
    exec (.wrT1cL v d) s = .next
      { s.setVia v { s.via v with t1l := (s.via v).t1l.extractLsb' 8 8 ++ d } with result := .none } ∧
    encode (.wrT1cH v d) = .call v (0x05#8 ++ d) ∧
    exec (.wrT1cH v d) s = .next
      { s.setVia v { s.via v with
          t1l := d ++ (s.via v).t1l.extractLsb' 0 8
          t1c := d ++ (s.via v).t1l.extractLsb' 0 8
          ifr := (s.via v).ifr &&& 0b0111111#7
          t1fired := false } with
        result := .none } ∧
    encode (.wrT1lL v d) = .call v (0x06#8 ++ d) ∧
    exec (.wrT1lL v d) s = .next
      { s.setVia v { s.via v with t1l := (s.via v).t1l.extractLsb' 8 8 ++ d } with result := .none } ∧
    encode (.wrT1lH v d) = .call v (0x07#8 ++ d) ∧
    exec (.wrT1lH v d) s = .next
      { s.setVia v { s.via v with
          t1l := d ++ (s.via v).t1l.extractLsb' 0 8
          ifr := (s.via v).ifr &&& 0b0111111#7 } with
        result := .none } ∧
    encode (.wrT2cL v d) = .call v (0x08#8 ++ d) ∧
    exec (.wrT2cL v d) s = .next
      { s.setVia v { s.via v with t2l := d } with result := .none } ∧
    encode (.wrT2cH v d) = .call v (0x09#8 ++ d) ∧
    exec (.wrT2cH v d) s = .next
      { s.setVia v { s.via v with
          t2c := (d.setWidth 16 <<< 8) ||| (s.via v).t2l.setWidth 16
          ifr := (s.via v).ifr &&& 0b1011111#7
          t2fired := false } with
        result := .none }

/-- The reads of RS10 to RS14 (R171, R173, R175, R177, R179). -/
def Obligations.ControlRegisterReads : Prop :=
  ∀ (v : ViaId) (s : State),
    encode (.rdSr v) = .call v 0x1A00#16 ∧
    exec (.rdSr v) s = .next { s with result := .byte (s.via v).sr } ∧
    encode (.rdAcr v) = .call v 0x1B00#16 ∧
    exec (.rdAcr v) s = .next { s with result := .byte (s.via v).acr } ∧
    encode (.rdPcr v) = .call v 0x1C00#16 ∧
    exec (.rdPcr v) s = .next { s with result := .byte (s.via v).pcr } ∧
    encode (.rdIfr v) = .call v 0x1D00#16 ∧
    exec (.rdIfr v) s = .next
      { s with
        result := .byte
          ((if (s.via v).ifr &&& (s.via v).ier &&& 0x7F#7 ≠ 0#7 then 1#1 else 0#1) ++ (s.via v).ifr) } ∧
    encode (.rdIer v) = .call v 0x1E00#16 ∧
    exec (.rdIer v) s = .next { s with result := .byte (1#1 ++ (s.via v).ier) }

/-- The writes of RS10, RS11, RS13 and RS14 (R170, R172, R176, R178). -/
def Obligations.ControlRegisterWrites : Prop :=
  ∀ (v : ViaId) (d : Byte) (s : State),
    encode (.wrSr v d) = .call v (0x0A#8 ++ d) ∧
    exec (.wrSr v d) s = .next { s.setVia v { s.via v with sr := d } with result := .none } ∧
    encode (.wrAcr v d) = .call v (0x0B#8 ++ d) ∧
    exec (.wrAcr v d) s = .next { s.setVia v { s.via v with acr := d } with result := .none } ∧
    encode (.wrIfr v d) = .call v (0x0D#8 ++ d) ∧
    exec (.wrIfr v d) s = .next
      { s.setVia v { s.via v with ifr := (s.via v).ifr &&& ~~~(d.extractLsb' 0 7) } with
        result := .none } ∧
    encode (.wrIer v d) = .call v (0x0E#8 ++ d) ∧
    exec (.wrIer v d) s = .next
      { s.setVia v { s.via v with
          ier := if d.getLsbD 7 = true then (s.via v).ier ||| d.extractLsb' 0 7
            else (s.via v).ier &&& ~~~(d.extractLsb' 0 7) } with
        result := .none }

/-- R174: a write of RS12 stores PCR and forces CA2 and CB2 for field values 0b110 and 0b111 alone. -/
def Obligations.PcrWriteForcesManualLevels : Prop :=
  ∀ (v : ViaId) (d : Byte) (s : State),
    encode (.wrPcr v d) = .call v (0x0C#8 ++ d) ∧
    ∃ t, exec (.wrPcr v d) s = .next t ∧
      t = { s.setVia v { s.via v with pcr := d, ca2 := (t.via v).ca2, cb2 := (t.via v).cb2 } with
        result := .none } ∧
      (d.extractLsb' 1 3 = 0b110#3 → (t.via v).ca2 = false) ∧
      (d.extractLsb' 1 3 = 0b111#3 → (t.via v).ca2 = true) ∧
      (d.extractLsb' 1 3 ≠ 0b110#3 → d.extractLsb' 1 3 ≠ 0b111#3 → (t.via v).ca2 = (s.via v).ca2) ∧
      (d.extractLsb' 5 3 = 0b110#3 → (t.via v).cb2 = false) ∧
      (d.extractLsb' 5 3 = 0b111#3 → (t.via v).cb2 = true) ∧
      (d.extractLsb' 5 3 ≠ 0b110#3 → d.extractLsb' 5 3 ≠ 0b111#3 → (t.via v).cb2 = (s.via v).cb2)

/-! ### TICK (spec/44_via_tick.md) -/

/-- R191: what TICK n does to Timer 1, with d = toInt(T1C) - n as an exact integer. -/
def Obligations.TickStepsTimer1 : Prop :=
  ∀ (v : ViaId) (n : BitVec 12) (s : State), (Instr.tick v n).wf = true →
    ∃ t, exec (.tick v n) s = .next t ∧
      ∀ (x y : Via) (d : Int), x = s.via v → y = t.via v →
        d = (x.t1c.toNat : Int) - (n.toNat : Int) →
        (0 < d → (y.t1c.toNat : Int) = d ∧ y.t1fired = x.t1fired ∧
          y.ifr.getLsbD 6 = x.ifr.getLsbD 6) ∧
        (d ≤ 0 → x.acr.getLsbD 6 = true → (y.t1c.toNat : Int) = (d + x.t1l.toNat + 2) % 65536 ∧
          y.t1fired = x.t1fired ∧ y.ifr.getLsbD 6 = true) ∧
        (d ≤ 0 → x.acr.getLsbD 6 = false → x.t1fired = false →
          (y.t1c.toNat : Int) = (d + 0xFFFF) % 65536 ∧ y.t1fired = true ∧ y.ifr.getLsbD 6 = true) ∧
        (d ≤ 0 → x.acr.getLsbD 6 = false → x.t1fired = true →
          (y.t1c.toNat : Int) = d % 65536 ∧ y.t1fired = true ∧ y.ifr.getLsbD 6 = x.ifr.getLsbD 6)

/-- R192: what TICK n does to Timer 2, which ACR[5] holds and ACR[6] does not touch. -/
def Obligations.TickStepsTimer2 : Prop :=
  ∀ (v : ViaId) (n : BitVec 12) (s : State), (Instr.tick v n).wf = true →
    ∃ t, exec (.tick v n) s = .next t ∧
      ∀ (x y : Via) (d : Int), x = s.via v → y = t.via v →
        d = (x.t2c.toNat : Int) - (n.toNat : Int) →
        (x.acr.getLsbD 5 = true → y.t2c = x.t2c ∧ y.t2fired = x.t2fired ∧
          y.ifr.getLsbD 5 = x.ifr.getLsbD 5) ∧
        (x.acr.getLsbD 5 = false → 0 < d → (y.t2c.toNat : Int) = d ∧ y.t2fired = x.t2fired ∧
          y.ifr.getLsbD 5 = x.ifr.getLsbD 5) ∧
        (x.acr.getLsbD 5 = false → d ≤ 0 → x.t2fired = false →
          (y.t2c.toNat : Int) = (d + 0xFFFF) % 65536 ∧ y.t2fired = true ∧ y.ifr.getLsbD 5 = true) ∧
        (x.acr.getLsbD 5 = false → d ≤ 0 → x.t2fired = true →
          (y.t2c.toNat : Int) = d % 65536 ∧ y.t2fired = true ∧ y.ifr.getLsbD 5 = x.ifr.getLsbD 5)

/-- R193: what TICK n does at CA1 and CB1, whose selected edges PCR[0] and PCR[4] name, and that CA2 and CB2 set
nothing. -/
def Obligations.TickDetectsEdges : Prop :=
  ∀ (v : ViaId) (n : BitVec 12) (s : State), (Instr.tick v n).wf = true →
    ∃ t, exec (.tick v n) s = .next t ∧
      ∀ (x y : Via), x = s.via v → y = t.via v →
        y.ca1Prev = x.ca1 ∧ y.cb1Prev = x.cb1 ∧
        (x.ca1 ≠ x.ca1Prev → x.ca1 = x.pcr.getLsbD 0 → y.ifr.getLsbD 1 = true) ∧
        (¬(x.ca1 ≠ x.ca1Prev ∧ x.ca1 = x.pcr.getLsbD 0) → y.ifr.getLsbD 1 = x.ifr.getLsbD 1) ∧
        (x.cb1 ≠ x.cb1Prev → x.cb1 = x.pcr.getLsbD 4 → y.ifr.getLsbD 4 = true) ∧
        (¬(x.cb1 ≠ x.cb1Prev ∧ x.cb1 = x.pcr.getLsbD 4) → y.ifr.getLsbD 4 = x.ifr.getLsbD 4) ∧
        y.ifr.getLsbD 0 = x.ifr.getLsbD 0 ∧ y.ifr.getLsbD 3 = x.ifr.getLsbD 3 ∧
        y.ca2Prev = x.ca2Prev ∧ y.cb2Prev = x.cb2Prev

/-- R194 for the value TICK returns, and TICK's frame (R190): the timers' counters, their fired flags, the
remembered CA1 and CB1 and four flags of the instance alone may change. -/
def Obligations.TickReturnsTheSummary : Prop :=
  ∀ (v : ViaId) (n : BitVec 12) (s : State), (Instr.tick v n).wf = true →
    ∃ t, exec (.tick v n) s = .next t ∧
      ∀ (x y : Via), x = s.via v → y = t.via v →
        t = { s.setVia v y with result := .bit (decide (y.ifr &&& y.ier &&& 0x7F#7 ≠ 0#7)) } ∧
        y = { x with
          t1c := y.t1c, t1fired := y.t1fired, t2c := y.t2c, t2fired := y.t2fired,
          ca1Prev := y.ca1Prev, cb1Prev := y.cb1Prev, ifr := y.ifr } ∧
        y.ifr &&& 0b0001101#7 = x.ifr &&& 0b0001101#7 ∧
        encode (.tick v n) = .call v (2#4 ++ n)

/-- An inference the spec marks as its own (R195): in free-run mode, from the reload value T1L + 2, Timer 1
expires after exactly T1L + 2 further TICK 1 and holds the reload value again, whether the expiry before was
acknowledged or not: until then IFR[6] keeps its value, and that expiry sets it. The two wrapped reload values
expire on the next TICK. -/
def Obligations.FreeRunPeriodIsLatchPlusTwo : Prop :=
  ∀ x : Via, x.acr.getLsbD 6 = true →
    (x.t1l.toNat ≤ 0xFFFD → x.t1c.toNat = x.t1l.toNat + 2 →
      (∀ k, k < x.t1l.toNat + 2 →
        ((fun y : Via => (y.tick 1).2)^[k] x).ifr.getLsbD 6 = x.ifr.getLsbD 6 ∧
        ((fun y : Via => (y.tick 1).2)^[k] x).t1c.toNat = x.t1l.toNat + 2 - k) ∧
      ((fun y : Via => (y.tick 1).2)^[x.t1l.toNat + 2] x).ifr.getLsbD 6 = true ∧
      ((fun y : Via => (y.tick 1).2)^[x.t1l.toNat + 2] x).t1c.toNat = x.t1l.toNat + 2) ∧
    (x.t1l = 0xFFFE#16 → x.t1c = 0x0000#16 →
      (x.tick 1).2.ifr.getLsbD 6 = true ∧ (x.tick 1).2.t1c = 0xFFFF#16) ∧
    (x.t1l = 0xFFFF#16 → x.t1c = 0x0001#16 →
      (x.tick 1).2.ifr.getLsbD 6 = true ∧ (x.tick 1).2.t1c = 0x0001#16)

/-- An inference the spec marks as its own (R196): in one-shot mode a load of c ≥ 1 expires on the c-th TICK 1,
a load of 0 on the first, and once fired the counter wraps for ever with no flag. Timer 2 behaves the same way
while ACR[5] = 0. -/
def Obligations.OneShotTimersFireOnce : Prop :=
  (∀ x : Via, x.acr.getLsbD 6 = false →
    (x.t1fired = false → x.ifr.getLsbD 6 = false → 1 ≤ x.t1c.toNat →
      (∀ k, k < x.t1c.toNat →
        ((fun y : Via => (y.tick 1).2)^[k] x).ifr.getLsbD 6 = false ∧
        ((fun y : Via => (y.tick 1).2)^[k] x).t1c.toNat = x.t1c.toNat - k) ∧
      ((fun y : Via => (y.tick 1).2)^[x.t1c.toNat] x).ifr.getLsbD 6 = true ∧
      ((fun y : Via => (y.tick 1).2)^[x.t1c.toNat] x).t1fired = true ∧
      ((fun y : Via => (y.tick 1).2)^[x.t1c.toNat] x).t1c = 0xFFFF#16) ∧
    (x.t1fired = false → x.t1c = 0#16 →
      (x.tick 1).2.ifr.getLsbD 6 = true ∧ (x.tick 1).2.t1fired = true ∧
      (x.tick 1).2.t1c = 0xFFFE#16) ∧
    (x.t1fired = true → ∀ k,
      ((fun y : Via => (y.tick 1).2)^[k] x).ifr.getLsbD 6 = x.ifr.getLsbD 6 ∧
      ((fun y : Via => (y.tick 1).2)^[k] x).t1fired = true ∧
      ((fun y : Via => (y.tick 1).2)^[k] x).t1c = x.t1c - BitVec.ofNat 16 k)) ∧
  (∀ x : Via, x.acr.getLsbD 5 = false →
    (x.t2fired = false → x.ifr.getLsbD 5 = false → 1 ≤ x.t2c.toNat →
      (∀ k, k < x.t2c.toNat →
        ((fun y : Via => (y.tick 1).2)^[k] x).ifr.getLsbD 5 = false ∧
        ((fun y : Via => (y.tick 1).2)^[k] x).t2c.toNat = x.t2c.toNat - k) ∧
      ((fun y : Via => (y.tick 1).2)^[x.t2c.toNat] x).ifr.getLsbD 5 = true ∧
      ((fun y : Via => (y.tick 1).2)^[x.t2c.toNat] x).t2fired = true ∧
      ((fun y : Via => (y.tick 1).2)^[x.t2c.toNat] x).t2c = 0xFFFF#16) ∧
    (x.t2fired = false → x.t2c = 0#16 →
      (x.tick 1).2.ifr.getLsbD 5 = true ∧ (x.tick 1).2.t2fired = true ∧
      (x.tick 1).2.t2c = 0xFFFE#16) ∧
    (x.t2fired = true → ∀ k,
      ((fun y : Via => (y.tick 1).2)^[k] x).ifr.getLsbD 5 = x.ifr.getLsbD 5 ∧
      ((fun y : Via => (y.tick 1).2)^[k] x).t2fired = true ∧
      ((fun y : Via => (y.tick 1).2)^[k] x).t2c = x.t2c - BitVec.ofNat 16 k))

/-! ### Lines, ports and RESET (spec/45_via_lines_and_reset.md) -/

/-- R210: SET_LINE drives one line and changes no flag and no remembered value. -/
def Obligations.SetLineDrivesOneLine : Prop :=
  ∀ (v : ViaId) (b : Bool) (s : State),
    encode (.setCa1 v b) = .call v (0x40#8 ++ 0#7 ++ BitVec.ofBool b) ∧
    exec (.setCa1 v b) s = .next { s.setVia v { s.via v with ca1 := b } with result := .none } ∧
    encode (.setCa2 v b) = .call v (0x41#8 ++ 0#7 ++ BitVec.ofBool b) ∧
    exec (.setCa2 v b) s = .next { s.setVia v { s.via v with ca2 := b } with result := .none } ∧
    encode (.setCb1 v b) = .call v (0x42#8 ++ 0#7 ++ BitVec.ofBool b) ∧
    exec (.setCb1 v b) s = .next { s.setVia v { s.via v with cb1 := b } with result := .none } ∧
    encode (.setCb2 v b) = .call v (0x43#8 ++ 0#7 ++ BitVec.ofBool b) ∧
    exec (.setCb2 v b) s = .next { s.setVia v { s.via v with cb2 := b } with result := .none }

/-- R212: SET_PORT drives one port's external value. -/
def Obligations.SetPortDrivesOnePort : Prop :=
  ∀ (v : ViaId) (d : Byte) (s : State),
    encode (.setPa v d) = .call v (0x50#8 ++ d) ∧
    exec (.setPa v d) s = .next { s.setVia v { s.via v with pa := d } with result := .none } ∧
    encode (.setPb v d) = .call v (0x51#8 ++ d) ∧
    exec (.setPb v d) s = .next { s.setVia v { s.via v with pb := d } with result := .none }

/-- R214 and R216: a getter returns a line or a port's value and changes nothing. -/
def Obligations.GettersReturnAndChangeNothing : Prop :=
  ∀ (v : ViaId) (s : State),
    encode (.getCa1 v) = .call v 0x6000#16 ∧
    exec (.getCa1 v) s = .next { s with result := .bit (s.via v).ca1 } ∧
    encode (.getCa2 v) = .call v 0x6100#16 ∧
    exec (.getCa2 v) s = .next { s with result := .bit (s.via v).ca2 } ∧
    encode (.getCb1 v) = .call v 0x6200#16 ∧
    exec (.getCb1 v) s = .next { s with result := .bit (s.via v).cb1 } ∧
    encode (.getCb2 v) = .call v 0x6300#16 ∧
    exec (.getCb2 v) s = .next { s with result := .bit (s.via v).cb2 } ∧
    encode (.getPa v) = .call v 0x7000#16 ∧
    exec (.getPa v) s = .next { s with result := .byte (s.via v).pa } ∧
    encode (.getPb v) = .call v 0x7100#16 ∧
    exec (.getPb v) s = .next { s with result := .byte (s.via v).pb }

/-- R218: RESET sets every field of one instance to 0 and (R219) changes nothing else. -/
def Obligations.ResetZeroesOneInstance : Prop :=
  ∀ (v : ViaId) (s : State),
    encode (.reset v) = .call v 0x3000#16 ∧
    exec (.reset v) s = .next
      { s.setVia v
          { ora := 0#8, orb := 0#8, ddra := 0#8, ddrb := 0#8, pa := 0#8, pb := 0#8,
            t1c := 0#16, t1l := 0#16, t1fired := false, t2c := 0#16, t2l := 0#8, t2fired := false,
            ca1 := false, ca2 := false, cb1 := false, cb2 := false,
            ca1Prev := false, ca2Prev := false, cb1Prev := false, cb2Prev := false,
            ifr := 0#7, ier := 0#7, acr := 0#8, pcr := 0#8, sr := 0#8 } with
        result := .none }

/-- An inference the spec marks as its own (R213): after SET_PORT A with d, a read of RS1 or RS15 returns d,
whatever DDRA was written before. -/
def Obligations.PortAPassesThrough : Prop :=
  ∀ (v : ViaId) (mask d : Byte) (s s1 s2 : State),
    exec (.wrDdra v mask) s = .next s1 → exec (.setPa v d) s1 = .next s2 →
    (∃ t, exec (.rdOraIraNh v) s2 = .next t ∧ t.result = .byte d ∧ t.via v = s2.via v) ∧
    (∃ t, exec (.rdOraIra v) s2 = .next t ∧ t.result = .byte d ∧ (t.via v).pa = d)

/-! ### Rules about every call (spec/10_state.md R24, R41, R43, R48; spec/43_via_control_registers.md R180) -/

/-- A call on an instance leaves the other instance, every byte of MEM, PT, the mailbox, IRQ, TICKS, DISPATCHED,
the setup and the inputs as they were; and its result and the instance it leaves depend on nothing but that
instance (R24, R72, R219, R237). -/
def Obligations.CallsAreConfinedToTheirInstance : Prop :=
  (∀ (i : Instr) (v : ViaId) (w : OpWord) (s t : State), encode i = .call v w → exec i s = .next t →
    (∀ u, u ≠ v → t.via u = s.via u) ∧ (∀ a, t.mem.read a = s.mem.read a) ∧ t.mem = s.mem ∧
    t.pt = s.pt ∧ t.mbox = s.mbox ∧ t.irq = s.irq ∧ t.ticks = s.ticks ∧
    t.dispatched = s.dispatched ∧ t.setup = s.setup ∧ t.inputs = s.inputs ∧ t.draws = s.draws) ∧
  (∀ (i : Instr) (v : ViaId) (w : OpWord) (s s' t : State), encode i = .call v w →
    s.via v = s'.via v → exec i s = .next t →
    ∃ t', exec i s' = .next t' ∧ t'.via v = t.via v ∧ t'.result = t.result)

/-- An inference the spec marks as its own (R180): only WRITE_REG RS14 and RESET change IER; only the listed
calls clear a flag; only TICK sets one. -/
def Obligations.WhatChangesTheFlagsAndEnables : Prop :=
  ∀ (i : Instr) (v : ViaId) (s t : State), exec i s = .next t →
    ((t.via v).ier ≠ (s.via v).ier → i = .reset v ∨ ∃ d, i = .wrIer v d) ∧
    ((s.via v).ifr &&& ~~~(t.via v).ifr ≠ 0#7 →
      i = .reset v ∨ (∃ d, i = .wrIfr v d) ∨ i = .rdOrbIrb v ∨ (∃ d, i = .wrOrb v d) ∨
      i = .rdOraIra v ∨ (∃ d, i = .wrOra v d) ∨ i = .rdT1cL v ∨ (∃ d, i = .wrT1cH v d) ∨
      (∃ d, i = .wrT1lH v d) ∨ i = .rdT2cL v ∨ (∃ d, i = .wrT2cH v d) ∨
      (∃ a, i = .busRd a ∧ classify s.pt a = .mappedIO ∧ ∃ r, ioDecode s.setup a = some (v, r) ∧
        (r = .orbIrb ∨ r = .oraIra ∨ r = .t1cL ∨ r = .t2cL))) ∧
    ((t.via v).ifr &&& ~~~(s.via v).ifr ≠ 0#7 → ∃ n, i = .tick v n)

/-- What changes the timers, in part an inference the spec marks as its own (R163, with R218, R35, R38): only
RS5, RS9, TICK and RESET change a counter or a fired flag, and only the latch writes and RESET change a latch.
-/
def Obligations.WhatChangesTheTimers : Prop :=
  ∀ (i : Instr) (v : ViaId) (s t : State), exec i s = .next t →
    ((t.via v).t1c ≠ (s.via v).t1c ∨ (t.via v).t1fired ≠ (s.via v).t1fired →
      i = .reset v ∨ (∃ d, i = .wrT1cH v d) ∨ ∃ n, i = .tick v n) ∧
    ((t.via v).t2c ≠ (s.via v).t2c ∨ (t.via v).t2fired ≠ (s.via v).t2fired →
      i = .reset v ∨ (∃ d, i = .wrT2cH v d) ∨ ∃ n, i = .tick v n) ∧
    ((t.via v).t1l ≠ (s.via v).t1l →
      i = .reset v ∨ (∃ d, i = .wrT1cL v d) ∨ (∃ d, i = .wrT1cH v d) ∨ (∃ d, i = .wrT1lL v d) ∨
      ∃ d, i = .wrT1lH v d) ∧
    ((t.via v).t2l ≠ (s.via v).t2l → i = .reset v ∨ ∃ d, i = .wrT2cL v d)

/-! ### The step, the tick and the interrupt request (spec/46_tick_protocol.md) -/

/-- A step runs the decoded operation: of a call, exec alone; of a bus word, exec as the bus phase, then in
lock-step the dispatch phase and the count of the tick (R230, R231), in the relaxed mode the count (R241). -/
def Obligations.StepRunsTheDecodedOperation : Prop :=
  (∀ (s : State) v w rest i, s.setup.check = none → s.inputs = .call v w :: rest →
    decode (.call v w) = .ok i → step s = exec i { s with inputs := rest }) ∧
  (∀ (s : State) w m rest i, s.setup.check = none → s.inputs = .bus w m :: rest →
    decode (.bus w) = .ok i →
    ∃ u, exec i { s with inputs := rest } = .next u ∧
      (s.setup.lockstep = true → step s = .next ((u.dispatchPhase m 1).countTick)) ∧
      (s.setup.lockstep = false → step s = .next u.countTick))

/-- R230: a tick is the host events in order, the bus phase, the dispatch phase and the count: the steps that
take the inputs of a sequence of ticks one by one end where TICK_STEP, tick by tick, ends (R19). That a run's
inputs stand in a queue, the field `inputs`, is the model's choice (log 5). -/
def Obligations.StepsOfATickAreTickStep : Prop :=
  (∀ (s : State) (ti : TickInput) (rest : List Input), s.setup.check = none →
    s.setup.lockstep = true → s.inputs = ti.inputs ++ rest →
    core.run (ti.host.length + 1) s = .next (({ s with inputs := rest } : State).tickStep ti)) ∧
  (∀ (tis : List TickInput) (s : State) (rest : List Input), s.setup.check = none →
    s.setup.lockstep = true → s.inputs = tis.flatMap TickInput.inputs ++ rest →
    core.run (tis.map (fun ti => ti.host.length + 1)).sum s =
      .next (({ s with inputs := rest } : State).runTicks tis).2)

/-- R233: the drain applies the oldest entry first, as WRITE_REG on the instance and register ioDecode names,
and leaves the mailbox empty. -/
def Obligations.DrainAppliesOldestFirst : Prop :=
  (∀ s : State, s.mbox = [] → s.drain = s) ∧
  (∀ (s : State) (e : Entry) (q : List Entry), s.mbox = e :: q →
    (∀ v r, ioDecode s.setup e.addr = some (v, r) →
      s.drain = ({ s with mbox := q }.setVia v ((s.via v).writeReg r e.data)).drain) ∧
    (ioDecode s.setup e.addr = none → s.drain = ({ s with mbox := q } : State).drain) ∧
    s.drain.mbox = [])

/-- READ_REG and WRITE_REG as the bus reach them are the register calls: same byte, same instance (R92). -/
def Obligations.RegisterFileIsTheRegisterCalls : Prop :=
  ∀ (v : ViaId) (r : Reg) (d : Byte) (s : State),
    exec (readInstr v r) s =
      .next { s.setVia v ((s.via v).readReg r).2 with result := .byte ((s.via v).readReg r).1 } ∧
    exec (writeInstr v d r) s =
      .next { s.setVia v ((s.via v).writeReg r d) with result := .none }

/-- An inference the spec marks as its own (R239): in lock-step a mapped write of tick N is applied to its
instance before that tick's TICK, its IRQ and any later cycle: the step leaves the instance as the write, the
keyboard push when it is enabled (R232), and one TICK leave it. MEM holds the byte (R71). -/
def Obligations.MappedWriteLandsBeforeItsTick : Prop :=
  ∀ (s : State) (a : Addr) (d : Byte) (w : BusWord) (m : KeyMatrix) (rest : List Input) (v : ViaId)
    (r : Reg),
    s.Inv → s.setup.lockstep = true → s.inputs = .bus w m :: rest →
    decodeBus w = .busWr a d → classify s.pt a = .mappedIO → ioDecode s.setup a = some (v, r) →
    ∃ t p, step s = .next t ∧ p = (s.setVia v ((s.via v).writeReg r d)).kbdStep m ∧
      t.via v = ((p.via v).tick 1).2 ∧
      (s.setup.kbdEnable = false → t.via v = (((s.via v).writeReg r d).tick 1).2) ∧
      (∀ u, u ≠ v → t.via u = if isTicked s.setup u = true then ((p.via u).tick 1).2 else s.via u) ∧
      t.irq = t.irqLevel ∧ t.mem.read a = d ∧ t.mbox = [] ∧ t.ticks = s.ticks + 1

/-- In part inferences the spec marks as its own (R240, R256 (a)): a read of tick N sees the instance as tick
N-1 left it, and its acknowledge lands before tick N's TICK and the keyboard push, when that is enabled. -/
def Obligations.MappedReadSeesTheTickBefore : Prop :=
  ∀ (s : State) (a : Addr) (w : BusWord) (m : KeyMatrix) (rest : List Input) (v : ViaId) (r : Reg),
    s.Inv → s.setup.lockstep = true → s.inputs = .bus w m :: rest →
    decodeBus w = .busRd a → classify s.pt a = .mappedIO → ioDecode s.setup a = some (v, r) →
    ∃ t, step s = .next t ∧ t.result = .byte ((s.via v).readReg r).1 ∧
      t.via v = ((((s.setVia v ((s.via v).readReg r).2).kbdStep m).via v).tick 1).2 ∧
      (s.setup.kbdEnable = false → t.via v = ((((s.via v).readReg r).2).tick 1).2) ∧
      t.mem = s.mem ∧ t.ticks = s.ticks + 1

/-- R237: at the end of every dispatch phase IRQ is 1 exactly when some ticked instance has a flag set whose
enable is set; a call on an instance, and a relaxed BUS_STEP, leave IRQ alone. -/
def Obligations.IrqIsTheLevelOfEnabledFlags : Prop :=
  (∀ (s t : State) w m rest,
    (s.setup.lockstep = true ∧ s.inputs = .bus w m :: rest) ∨ s.inputs = .dispatch m :: rest →
    step s = .next t →
    (t.irq = true ↔ ∃ v i, isTicked t.setup v = true ∧ (t.via v).ifr.getLsbD i = true ∧
      (t.via v).ier.getLsbD i = true)) ∧
  (∀ (s t : State) v w rest, s.inputs = .call v w :: rest → step s = .next t → t.irq = s.irq) ∧
  (∀ (s t : State) w m rest, s.setup.lockstep = false → s.inputs = .bus w m :: rest →
    step s = .next t → t.irq = s.irq)

/-- R236: the byte KBD_PUSH returns has the bits of the selected rows, row r being selected by bit r of the
select port, inverted when the selection is active-low; it is driven into the return port before the TICK. -/
def Obligations.KeyboardPushReturnsTheSelectedRows : Prop :=
  (∀ (m : KeyMatrix) (low : Bool) (sel : Byte) (j : Nat), j < 8 →
    ((m.scan low sel).getLsbD j = true ↔
      ∃ (r : Nat) (h : r < 8), sel.getLsbD r = !low ∧ (m.rows[r]'h).getLsbD j = true)) ∧
  (∀ (s : State) (m : KeyMatrix), s.setup.kbdEnable = true →
    s.kbdStep m = s.setVia s.setup.kbdVia
      ((s.via s.setup.kbdVia).setPort s.setup.kbdReturnPort
        (m.scan s.setup.kbdSelectActiveLow ((s.via s.setup.kbdVia).port s.setup.kbdSelectPort)))) ∧
  (∀ (s : State) (m : KeyMatrix), s.setup.kbdEnable = false → s.kbdStep m = s) ∧
  (∀ (s : State) (m : KeyMatrix) (n : Nat),
    (s.dispatchPhase m n).via1 = (((s.drain.kbdStep m).via1).tick n).2 ∧
    (s.dispatchPhase m n).via2 = if s.setup.viaCount = 2 then (((s.drain.kbdStep m).via2).tick n).2
      else (s.drain.kbdStep m).via2)

/-- R241 for its allowed steps: a DISPATCH_STEP is taken in the relaxed mode while DISPATCHED < TICKS, advances
by 1 or by the whole lag, and is otherwise no step of the block (refused: the model's choice, log 9). -/
def Obligations.RelaxedDispatchAdvances : Prop :=
  ∀ (s : State) (m : KeyMatrix) (rest : List Input), s.setup.check = none →
    s.inputs = .dispatch m :: rest →
    (s.setup.lockstep = false → s.dispatched < s.ticks → s.setup.tickAdvance = .perTick →
      step s = .next { ({ s with inputs := rest } : State).dispatchPhase m 1 with
        dispatched := s.dispatched + 1 }) ∧
    (s.setup.lockstep = false → s.dispatched < s.ticks → s.setup.tickAdvance = .elapsed →
      step s = .next { ({ s with inputs := rest } : State).dispatchPhase m (s.ticks - s.dispatched) with
        dispatched := s.ticks }) ∧
    (s.setup.lockstep = true ∨ s.ticks ≤ s.dispatched → step s = .refused .dispatchNotDue)

/-- R241, its last clause: when DISPATCHED = TICKS after every tick, a BUS_STEP and its DISPATCH_STEP are one
tick of the lock-step mode. -/
def Obligations.CaughtUpRelaxedTickIsALockstepTick : Prop :=
  ∀ (s : State) (w : BusWord) (m : KeyMatrix), s.setup.check = none → s.setup.lockstep = false →
    s.dispatched = s.ticks →
    ∃ t, core.run 2 { s with inputs := [.bus w m, .dispatch m] } = .next t ∧
      t.dispatched = t.ticks ∧
      step { s.asLockstep with inputs := [.bus w m] } = .next t.asLockstep

/-- The model's reading of R242 (log 9): an overlapped read leaves everything but the byte returned, the flags
of the instance read and IRQ as the two steps one after the other, the DISPATCH_STEP first, so that under ELAPSED
its k leaves out the overlapped tick (the model's choice of order, log 9); a read that acknowledges nothing leaves the
flags so too; and no flag appears that was not set and that TICK does not set. -/
def Obligations.OverlapLeavesTheRestSerial : Prop :=
  ∀ (s t : State) (w : BusWord) (m : KeyMatrix) (rest : List Input),
    s.inputs = .overlap w m :: rest → step s = .next t →
    ∃ v r, viaRead s w = some (v, r) ∧ ∃ u b, u = ({ s with inputs := rest } : State).dispatchStep m ∧
      t = { u.setVia v { u.via v with ifr := (t.via v).ifr } with
        result := .byte b, irq := t.irqLevel, ticks := s.ticks + 1, draws := s.draws + 1 } ∧
      (readAckMask r = 0#7 → (t.via v).ifr = (u.via v).ifr) ∧
      (t.via v).ifr &&& ~~~((s.via v).ifr ||| 0b1110010#7) = 0#7

/-- R243: the extra dispatch quantum after the run changes no memory and no page table, and nothing is taken
after it. That TICKS stays is the model's choice (log 8). -/
def Obligations.ShutdownQuantumChangesNoMemory : Prop :=
  ∀ (s : State) (m : KeyMatrix) (rest : List Input), s.setup.check = none →
    s.inputs = .shutdown m :: rest →
    ∃ t, step s = .next t ∧ t.mem = s.mem ∧ t.pt = s.pt ∧ t.inputs = [] ∧ t.mbox = [] ∧
      t.ticks = s.ticks ∧ step t = .next t

/-! ### Rules about every step -/

/-- The invariant holds at every launch state with an accepted setup and a canonical image, and at reset (R280).
-/
def Obligations.LaunchStatesMeetTheInvariant : Prop :=
  State.reset.Inv ∧
  ∀ (p : Setup) (pt : PageTable) (image : Memory), p.check = none → image.wf = true →
    (State.launch p pt image).Inv

/-- Every step from a state that meets the invariant ends in one that meets it (R41, R40, R47, R74, R75, R241).
-/
def Obligations.EveryStepKeepsTheInvariant : Prop :=
  ∀ s t : State, s.Inv → step s = .next t → t.Inv

/-- R250: every operation completes, with every operand and in every state. -/
def Obligations.EveryOperationCompletes : Prop :=
  (∀ (i : Instr) (s : State), ∃ t, exec i s = .next t) ∧
  (∀ (s : State) (f : Fault), step s ≠ .fault f) ∧
  (∀ (s : State) v w rest, s.setup.check = none → s.inputs = .call v w :: rest →
    (∃ t, step s = .next t) ∨ ∃ e, decodeViaop v w = .error e) ∧
  (∀ (s : State) w m rest, s.setup.check = none → s.inputs = .bus w m :: rest →
    ∃ t, step s = .next t)

/-- A step of an accepted setup answers a next state exactly when the next input, if there is one, is one that
the environment may offer: which inputs those are is the model's reading of R97, R241, R242 and R252 (log 9). -/
def Obligations.EveryAdmittedInputCompletes : Prop :=
  ∀ s : State, s.setup.check = none → (s.CanStep ↔ s.Admitted)

/-- R263: which setups are refused, and that a refused setup has no run. -/
def Obligations.RefusedSetupsHaveNoRun : Prop :=
  (∀ p : Setup, p.check = none ↔
    (p.viaCount = 1 ∨ p.viaCount = 2) ∧ p.via1Block ≠ p.via2Block ∧ 1 ≤ p.mailboxCapacity ∧
    (p.kbdEnable = true → p.kbdReturnPort ≠ p.kbdSelectPort) ∧
    (p.kbdEnable = true → p.kbdVia = .via2 → p.viaCount = 2)) ∧
  (∀ (s : State) (f : SetupFailure), s.setup.check = some f → step s = .refused (.setupFailure f))

/-- R23 for PT, and R12 for the setup: no step writes them. -/
def Obligations.PageTableAndSetupAreFixed : Prop :=
  ∀ s t : State, step s = .next t → t.pt = s.pt ∧ t.setup = s.setup

/-- R22: only a bus write changes MEM, at its own address, and never in a ROM page (R114). -/
def Obligations.OnlyBusWritesChangeMemory : Prop :=
  ∀ (s t : State) (a : Addr), s.mem.wf = true → step s = .next t → t.mem.read a ≠ s.mem.read a →
    classify s.pt a ≠ .rom ∧
    ∃ w m rest d, s.inputs = .bus w m :: rest ∧ decodeBus w = .busWr a d ∧ t.mem.read a = d

/-- An inference the spec marks as its own (R74): in lock-step the mailbox is empty after every step that starts
with it empty, and the capacity cannot be observed: with any other, the step does the same. -/
def Obligations.CapacityIsUnobservableInLockstep : Prop :=
  ∀ (s t : State) (c : Nat), s.setup.lockstep = true → s.mbox = [] → 1 ≤ c → step s = .next t →
    t.mbox = [] ∧ step (s.withCapacity c) = .next (t.withCapacity c)

/-- An inference the spec marks as its own (R197): after RESET the first TICK 1 expires both timers, sets IFR[6]
and IFR[5], and returns false. -/
def Obligations.FirstTickAfterResetExpiresBothTimers : Prop :=
  ∀ (v : ViaId) (s s1 : State), exec (.reset v) s = .next s1 →
    ∃ t, exec (.tick v 1#12) s1 = .next t ∧ (t.via v).t1c = 0xFFFE#16 ∧ (t.via v).t2c = 0xFFFE#16 ∧
      (t.via v).t1fired = true ∧ (t.via v).t2fired = true ∧ (t.via v).ifr = 0b1100000#7 ∧
      t.result = .bit false

/-- The property R162 quotes, at the VIA interface: after RS4 takes L and RS5 takes H, with no TICK between, a
read of RS4 returns L, a read of RS5 returns H, and the T1 flag is clear. -/
def Obligations.TimerLoadReadsBack : Prop :=
  ∀ (v : ViaId) (l h : Byte) (s s1 s2 : State),
    exec (.wrT1cL v l) s = .next s1 → exec (.wrT1cH v h) s1 = .next s2 →
    (s2.via v).ifr.getLsbD 6 = false ∧ (s2.via v).t1c = h ++ l ∧
    (∃ t, exec (.rdT1cL v) s2 = .next t ∧ t.result = .byte l ∧
      ∃ t', exec (.rdT1cH v) t = .next t' ∧ t'.result = .byte h)

/-- An inference the spec marks as its own (R292): a pulse on CA1 that is over before the next TICK sets no
flag. -/
def Obligations.PulseShorterThanATickIsLost : Prop :=
  ∀ (v : ViaId) (n : BitVec 12) (s s1 s2 t : State), (s.via v).ca1 = (s.via v).ca1Prev →
    exec (.setCa1 v (!(s.via v).ca1)) s = .next s1 → exec (.setCa1 v (s.via v).ca1) s1 = .next s2 →
    exec (.tick v n) s2 = .next t →
    (t.via v).ifr.getLsbD 1 = (s.via v).ifr.getLsbD 1

/-- With no input offered the state survives unchanged (R264, log 11); a bus cycle that missed its time budget is
refused (R252, log 14). -/
def Obligations.IdleAndLateSteps : Prop :=
  ∀ s : State, s.setup.check = none →
    (s.inputs = [] → step s = .next s) ∧
    (∀ rest, s.inputs = .lateCycle :: rest → step s = .refused .missedBudget)

/-- Noninterference of the instances under the bus (R24): in a setup with the keyboard off, two states that
differ in the second instance alone take the same lock-step bus write or plain read to the same MEM, first
instance and result, when the cycle does not read a register of the second instance. -/
def Obligations.SecondInstanceDoesNotReachTheFirst : Prop :=
  ∀ (s t : State) (y : Via) (w : BusWord) (m : KeyMatrix) (rest : List Input),
    s.setup.lockstep = true → s.setup.kbdEnable = false → s.inputs = .bus w m :: rest →
    (∀ r, viaRead s w ≠ some (.via2, r)) → step s = .next t →
    ∃ t', step { s with via2 := y } = .next t' ∧ t'.via1 = t.via1 ∧ t'.mem = t.mem ∧
      t'.result = t.result ∧ t'.mbox = t.mbox ∧ t'.ticks = t.ticks
end

