-- ==== Sys2Proof/Laws/State.lean ====
section
/-! SUPPORT. One lemma per field per update of the state and of an instance, so that no later proof unfolds a
record update, and the read-after-write laws of the instance accessors. -/

namespace Sys2Proof.Machine

open Sys2Proof

section Instances

@[simp] theorem setVia_mem (s : State) (v : ViaId) (x : Via) :
    (s.setVia v x).mem = s.mem := by cases v <;> rfl
@[simp] theorem setVia_pt (s : State) (v : ViaId) (x : Via) :
    (s.setVia v x).pt = s.pt := by cases v <;> rfl
@[simp] theorem setVia_mbox (s : State) (v : ViaId) (x : Via) :
    (s.setVia v x).mbox = s.mbox := by cases v <;> rfl
@[simp] theorem setVia_irq (s : State) (v : ViaId) (x : Via) :
    (s.setVia v x).irq = s.irq := by cases v <;> rfl
@[simp] theorem setVia_ticks (s : State) (v : ViaId) (x : Via) :
    (s.setVia v x).ticks = s.ticks := by cases v <;> rfl
@[simp] theorem setVia_dispatched (s : State) (v : ViaId) (x : Via) :
    (s.setVia v x).dispatched = s.dispatched := by cases v <;> rfl
@[simp] theorem setVia_setup (s : State) (v : ViaId) (x : Via) :
    (s.setVia v x).setup = s.setup := by cases v <;> rfl
@[simp] theorem setVia_inputs (s : State) (v : ViaId) (x : Via) :
    (s.setVia v x).inputs = s.inputs := by cases v <;> rfl
@[simp] theorem setVia_result (s : State) (v : ViaId) (x : Via) :
    (s.setVia v x).result = s.result := by cases v <;> rfl
@[simp] theorem setVia_draws (s : State) (v : ViaId) (x : Via) :
    (s.setVia v x).draws = s.draws := by cases v <;> rfl
@[simp] theorem setVia_via1 (s : State) (x : Via) : (s.setVia .via1 x).via1 = x := rfl
@[simp] theorem setVia_via2 (s : State) (x : Via) : (s.setVia .via2 x).via2 = x := rfl
@[simp] theorem setVia_via1_of_via2 (s : State) (x : Via) : (s.setVia .via2 x).via1 = s.via1 := rfl
@[simp] theorem setVia_via2_of_via1 (s : State) (x : Via) : (s.setVia .via1 x).via2 = s.via2 := rfl
@[simp] theorem via_via1 (s : State) : s.via .via1 = s.via1 := rfl
@[simp] theorem via_via2 (s : State) : s.via .via2 = s.via2 := rfl
@[simp] theorem via_setVia_same (s : State) (v : ViaId) (x : Via) :
    (s.setVia v x).via v = x := by cases v <;> rfl
theorem via_setVia_other (s : State) {v u : ViaId} (x : Via) (h : u ≠ v) :
    (s.setVia v x).via u = s.via u := by
  cases v <;> cases u <;> first | rfl | exact absurd rfl h

theorem via_setVia (s : State) (v u : ViaId) (x : Via) :
    (s.setVia v x).via u = if u = v then x else s.via u := by
  cases v <;> cases u <;> rfl

theorem setVia_self (s : State) (v : ViaId) : s.setVia v (s.via v) = s := by cases v <;> rfl

end Instances

section Calls

@[simp] theorem callReturns_mem (s : State) (v : ViaId) (r : Result) (x : Via) :
    (s.callReturns v r x).mem = s.mem := by
  cases v <;> rfl
@[simp] theorem callReturns_pt (s : State) (v : ViaId) (r : Result) (x : Via) :
    (s.callReturns v r x).pt = s.pt := by
  cases v <;> rfl
@[simp] theorem callReturns_mbox (s : State) (v : ViaId) (r : Result) (x : Via) :
    (s.callReturns v r x).mbox = s.mbox := by
  cases v <;> rfl
@[simp] theorem callReturns_irq (s : State) (v : ViaId) (r : Result) (x : Via) :
    (s.callReturns v r x).irq = s.irq := by
  cases v <;> rfl
@[simp] theorem callReturns_ticks (s : State) (v : ViaId) (r : Result) (x : Via) :
    (s.callReturns v r x).ticks = s.ticks := by
  cases v <;> rfl
@[simp] theorem callReturns_dispatched (s : State) (v : ViaId) (r : Result) (x : Via) :
    (s.callReturns v r x).dispatched = s.dispatched := by
  cases v <;> rfl
@[simp] theorem callReturns_setup (s : State) (v : ViaId) (r : Result) (x : Via) :
    (s.callReturns v r x).setup = s.setup := by
  cases v <;> rfl
@[simp] theorem callReturns_inputs (s : State) (v : ViaId) (r : Result) (x : Via) :
    (s.callReturns v r x).inputs = s.inputs := by
  cases v <;> rfl
@[simp] theorem callReturns_result (s : State) (v : ViaId) (r : Result) (x : Via) :
    (s.callReturns v r x).result = r := rfl
@[simp] theorem callReturns_draws (s : State) (v : ViaId) (r : Result) (x : Via) :
    (s.callReturns v r x).draws = s.draws := by
  cases v <;> rfl
@[simp] theorem via_callReturns_same (s : State) (v : ViaId) (r : Result) (x : Via) :
    (s.callReturns v r x).via v = x := by cases v <;> rfl

theorem via_callReturns (s : State) (v u : ViaId) (r : Result) (x : Via) :
    (s.callReturns v r x).via u = if u = v then x else s.via u := by
  cases v <;> cases u <;> rfl

end Calls

section Updates

@[simp] theorem storeByte_mem (s : State) (a : Addr) (d : Byte) :
    (s.storeByte a d).mem = s.mem.write a d := rfl
@[simp] theorem storeByte_pt (s : State) (a : Addr) (d : Byte) : (s.storeByte a d).pt = s.pt := rfl
@[simp] theorem storeByte_via1 (s : State) (a : Addr) (d : Byte) :
    (s.storeByte a d).via1 = s.via1 := rfl
@[simp] theorem storeByte_via2 (s : State) (a : Addr) (d : Byte) :
    (s.storeByte a d).via2 = s.via2 := rfl
@[simp] theorem storeByte_mbox (s : State) (a : Addr) (d : Byte) :
    (s.storeByte a d).mbox = s.mbox := rfl
@[simp] theorem storeByte_irq (s : State) (a : Addr) (d : Byte) :
    (s.storeByte a d).irq = s.irq := rfl
@[simp] theorem storeByte_ticks (s : State) (a : Addr) (d : Byte) :
    (s.storeByte a d).ticks = s.ticks := rfl
@[simp] theorem storeByte_dispatched (s : State) (a : Addr) (d : Byte) :
    (s.storeByte a d).dispatched = s.dispatched := rfl
@[simp] theorem storeByte_setup (s : State) (a : Addr) (d : Byte) :
    (s.storeByte a d).setup = s.setup := rfl
@[simp] theorem storeByte_inputs (s : State) (a : Addr) (d : Byte) :
    (s.storeByte a d).inputs = s.inputs := rfl
@[simp] theorem storeByte_result (s : State) (a : Addr) (d : Byte) :
    (s.storeByte a d).result = s.result := rfl
@[simp] theorem storeByte_draws (s : State) (a : Addr) (d : Byte) :
    (s.storeByte a d).draws = s.draws := rfl

@[simp] theorem enqueue_mem (s : State) (a : Addr) (d : Byte) : (s.enqueue a d).mem = s.mem := rfl
@[simp] theorem enqueue_pt (s : State) (a : Addr) (d : Byte) : (s.enqueue a d).pt = s.pt := rfl
@[simp] theorem enqueue_via1 (s : State) (a : Addr) (d : Byte) :
    (s.enqueue a d).via1 = s.via1 := rfl
@[simp] theorem enqueue_via2 (s : State) (a : Addr) (d : Byte) :
    (s.enqueue a d).via2 = s.via2 := rfl
@[simp] theorem enqueue_mbox (s : State) (a : Addr) (d : Byte) :
    (s.enqueue a d).mbox = pushEntry s.setup.mailboxCapacity s.mbox ⟨a, d⟩ := rfl
@[simp] theorem enqueue_irq (s : State) (a : Addr) (d : Byte) : (s.enqueue a d).irq = s.irq := rfl
@[simp] theorem enqueue_ticks (s : State) (a : Addr) (d : Byte) :
    (s.enqueue a d).ticks = s.ticks := rfl
@[simp] theorem enqueue_dispatched (s : State) (a : Addr) (d : Byte) :
    (s.enqueue a d).dispatched = s.dispatched := rfl
@[simp] theorem enqueue_setup (s : State) (a : Addr) (d : Byte) :
    (s.enqueue a d).setup = s.setup := rfl
@[simp] theorem enqueue_inputs (s : State) (a : Addr) (d : Byte) :
    (s.enqueue a d).inputs = s.inputs := rfl
@[simp] theorem enqueue_result (s : State) (a : Addr) (d : Byte) :
    (s.enqueue a d).result = s.result := rfl
@[simp] theorem enqueue_draws (s : State) (a : Addr) (d : Byte) :
    (s.enqueue a d).draws = s.draws := rfl

@[simp] theorem countTick_mem (s : State) : s.countTick.mem = s.mem := rfl
@[simp] theorem countTick_pt (s : State) : s.countTick.pt = s.pt := rfl
@[simp] theorem countTick_via1 (s : State) : s.countTick.via1 = s.via1 := rfl
@[simp] theorem countTick_via2 (s : State) : s.countTick.via2 = s.via2 := rfl
@[simp] theorem countTick_mbox (s : State) : s.countTick.mbox = s.mbox := rfl
@[simp] theorem countTick_irq (s : State) : s.countTick.irq = s.irq := rfl
@[simp] theorem countTick_ticks (s : State) : s.countTick.ticks = s.ticks + 1 := rfl
@[simp] theorem countTick_dispatched (s : State) : s.countTick.dispatched = s.dispatched := rfl
@[simp] theorem countTick_setup (s : State) : s.countTick.setup = s.setup := rfl
@[simp] theorem countTick_inputs (s : State) : s.countTick.inputs = s.inputs := rfl
@[simp] theorem countTick_result (s : State) : s.countTick.result = s.result := rfl
@[simp] theorem countTick_draws (s : State) : s.countTick.draws = s.draws := rfl

@[simp] theorem driveIrq_mem (s : State) : s.driveIrq.mem = s.mem := rfl
@[simp] theorem driveIrq_pt (s : State) : s.driveIrq.pt = s.pt := rfl
@[simp] theorem driveIrq_via1 (s : State) : s.driveIrq.via1 = s.via1 := rfl
@[simp] theorem driveIrq_via2 (s : State) : s.driveIrq.via2 = s.via2 := rfl
@[simp] theorem driveIrq_mbox (s : State) : s.driveIrq.mbox = s.mbox := rfl
@[simp] theorem driveIrq_irq (s : State) : s.driveIrq.irq = s.irqLevel := rfl
@[simp] theorem driveIrq_ticks (s : State) : s.driveIrq.ticks = s.ticks := rfl
@[simp] theorem driveIrq_dispatched (s : State) : s.driveIrq.dispatched = s.dispatched := rfl
@[simp] theorem driveIrq_setup (s : State) : s.driveIrq.setup = s.setup := rfl
@[simp] theorem driveIrq_inputs (s : State) : s.driveIrq.inputs = s.inputs := rfl
@[simp] theorem driveIrq_result (s : State) : s.driveIrq.result = s.result := rfl
@[simp] theorem driveIrq_draws (s : State) : s.driveIrq.draws = s.draws := rfl

@[simp] theorem withCapacity_mem (s : State) (c : Nat) : (s.withCapacity c).mem = s.mem := rfl
@[simp] theorem withCapacity_pt (s : State) (c : Nat) : (s.withCapacity c).pt = s.pt := rfl
@[simp] theorem withCapacity_via1 (s : State) (c : Nat) : (s.withCapacity c).via1 = s.via1 := rfl
@[simp] theorem withCapacity_via2 (s : State) (c : Nat) : (s.withCapacity c).via2 = s.via2 := rfl
@[simp] theorem withCapacity_mbox (s : State) (c : Nat) : (s.withCapacity c).mbox = s.mbox := rfl
@[simp] theorem withCapacity_irq (s : State) (c : Nat) : (s.withCapacity c).irq = s.irq := rfl
@[simp] theorem withCapacity_ticks (s : State) (c : Nat) :
    (s.withCapacity c).ticks = s.ticks := rfl
@[simp] theorem withCapacity_dispatched (s : State) (c : Nat) :
    (s.withCapacity c).dispatched = s.dispatched := rfl
@[simp] theorem withCapacity_setup (s : State) (c : Nat) :
    (s.withCapacity c).setup = ({ s.setup with mailboxCapacity := c } : Setup) := rfl
@[simp] theorem withCapacity_inputs (s : State) (c : Nat) :
    (s.withCapacity c).inputs = s.inputs := rfl
@[simp] theorem withCapacity_result (s : State) (c : Nat) :
    (s.withCapacity c).result = s.result := rfl
@[simp] theorem withCapacity_draws (s : State) (c : Nat) :
    (s.withCapacity c).draws = s.draws := rfl

end Updates

section Fields

@[simp] theorem raiseFlags_ora (x : Via) (m : Flags) : (x.raiseFlags m).ora = x.ora := rfl
@[simp] theorem raiseFlags_orb (x : Via) (m : Flags) : (x.raiseFlags m).orb = x.orb := rfl
@[simp] theorem raiseFlags_ddra (x : Via) (m : Flags) : (x.raiseFlags m).ddra = x.ddra := rfl
@[simp] theorem raiseFlags_ddrb (x : Via) (m : Flags) : (x.raiseFlags m).ddrb = x.ddrb := rfl
@[simp] theorem raiseFlags_pa (x : Via) (m : Flags) : (x.raiseFlags m).pa = x.pa := rfl
@[simp] theorem raiseFlags_pb (x : Via) (m : Flags) : (x.raiseFlags m).pb = x.pb := rfl
@[simp] theorem raiseFlags_t1c (x : Via) (m : Flags) : (x.raiseFlags m).t1c = x.t1c := rfl
@[simp] theorem raiseFlags_t1l (x : Via) (m : Flags) : (x.raiseFlags m).t1l = x.t1l := rfl
@[simp] theorem raiseFlags_t1fired (x : Via) (m : Flags) :
    (x.raiseFlags m).t1fired = x.t1fired := rfl
@[simp] theorem raiseFlags_t2c (x : Via) (m : Flags) : (x.raiseFlags m).t2c = x.t2c := rfl
@[simp] theorem raiseFlags_t2l (x : Via) (m : Flags) : (x.raiseFlags m).t2l = x.t2l := rfl
@[simp] theorem raiseFlags_t2fired (x : Via) (m : Flags) :
    (x.raiseFlags m).t2fired = x.t2fired := rfl
@[simp] theorem raiseFlags_ca1 (x : Via) (m : Flags) : (x.raiseFlags m).ca1 = x.ca1 := rfl
@[simp] theorem raiseFlags_ca2 (x : Via) (m : Flags) : (x.raiseFlags m).ca2 = x.ca2 := rfl
@[simp] theorem raiseFlags_cb1 (x : Via) (m : Flags) : (x.raiseFlags m).cb1 = x.cb1 := rfl
@[simp] theorem raiseFlags_cb2 (x : Via) (m : Flags) : (x.raiseFlags m).cb2 = x.cb2 := rfl
@[simp] theorem raiseFlags_ca1Prev (x : Via) (m : Flags) :
    (x.raiseFlags m).ca1Prev = x.ca1Prev := rfl
@[simp] theorem raiseFlags_ca2Prev (x : Via) (m : Flags) :
    (x.raiseFlags m).ca2Prev = x.ca2Prev := rfl
@[simp] theorem raiseFlags_cb1Prev (x : Via) (m : Flags) :
    (x.raiseFlags m).cb1Prev = x.cb1Prev := rfl
@[simp] theorem raiseFlags_cb2Prev (x : Via) (m : Flags) :
    (x.raiseFlags m).cb2Prev = x.cb2Prev := rfl
@[simp] theorem raiseFlags_ifr (x : Via) (m : Flags) : (x.raiseFlags m).ifr = x.ifr ||| m := rfl
@[simp] theorem raiseFlags_ier (x : Via) (m : Flags) : (x.raiseFlags m).ier = x.ier := rfl
@[simp] theorem raiseFlags_acr (x : Via) (m : Flags) : (x.raiseFlags m).acr = x.acr := rfl
@[simp] theorem raiseFlags_pcr (x : Via) (m : Flags) : (x.raiseFlags m).pcr = x.pcr := rfl
@[simp] theorem raiseFlags_sr (x : Via) (m : Flags) : (x.raiseFlags m).sr = x.sr := rfl

@[simp] theorem dropFlags_ora (x : Via) (m : Flags) : (x.dropFlags m).ora = x.ora := rfl
@[simp] theorem dropFlags_orb (x : Via) (m : Flags) : (x.dropFlags m).orb = x.orb := rfl
@[simp] theorem dropFlags_ddra (x : Via) (m : Flags) : (x.dropFlags m).ddra = x.ddra := rfl
@[simp] theorem dropFlags_ddrb (x : Via) (m : Flags) : (x.dropFlags m).ddrb = x.ddrb := rfl
@[simp] theorem dropFlags_pa (x : Via) (m : Flags) : (x.dropFlags m).pa = x.pa := rfl
@[simp] theorem dropFlags_pb (x : Via) (m : Flags) : (x.dropFlags m).pb = x.pb := rfl
@[simp] theorem dropFlags_t1c (x : Via) (m : Flags) : (x.dropFlags m).t1c = x.t1c := rfl
@[simp] theorem dropFlags_t1l (x : Via) (m : Flags) : (x.dropFlags m).t1l = x.t1l := rfl
@[simp] theorem dropFlags_t1fired (x : Via) (m : Flags) :
    (x.dropFlags m).t1fired = x.t1fired := rfl
@[simp] theorem dropFlags_t2c (x : Via) (m : Flags) : (x.dropFlags m).t2c = x.t2c := rfl
@[simp] theorem dropFlags_t2l (x : Via) (m : Flags) : (x.dropFlags m).t2l = x.t2l := rfl
@[simp] theorem dropFlags_t2fired (x : Via) (m : Flags) :
    (x.dropFlags m).t2fired = x.t2fired := rfl
@[simp] theorem dropFlags_ca1 (x : Via) (m : Flags) : (x.dropFlags m).ca1 = x.ca1 := rfl
@[simp] theorem dropFlags_ca2 (x : Via) (m : Flags) : (x.dropFlags m).ca2 = x.ca2 := rfl
@[simp] theorem dropFlags_cb1 (x : Via) (m : Flags) : (x.dropFlags m).cb1 = x.cb1 := rfl
@[simp] theorem dropFlags_cb2 (x : Via) (m : Flags) : (x.dropFlags m).cb2 = x.cb2 := rfl
@[simp] theorem dropFlags_ca1Prev (x : Via) (m : Flags) :
    (x.dropFlags m).ca1Prev = x.ca1Prev := rfl
@[simp] theorem dropFlags_ca2Prev (x : Via) (m : Flags) :
    (x.dropFlags m).ca2Prev = x.ca2Prev := rfl
@[simp] theorem dropFlags_cb1Prev (x : Via) (m : Flags) :
    (x.dropFlags m).cb1Prev = x.cb1Prev := rfl
@[simp] theorem dropFlags_cb2Prev (x : Via) (m : Flags) :
    (x.dropFlags m).cb2Prev = x.cb2Prev := rfl
@[simp] theorem dropFlags_ifr (x : Via) (m : Flags) : (x.dropFlags m).ifr = x.ifr &&& ~~~m := rfl
@[simp] theorem dropFlags_ier (x : Via) (m : Flags) : (x.dropFlags m).ier = x.ier := rfl
@[simp] theorem dropFlags_acr (x : Via) (m : Flags) : (x.dropFlags m).acr = x.acr := rfl
@[simp] theorem dropFlags_pcr (x : Via) (m : Flags) : (x.dropFlags m).pcr = x.pcr := rfl
@[simp] theorem dropFlags_sr (x : Via) (m : Flags) : (x.dropFlags m).sr = x.sr := rfl

@[simp] theorem recomputeA_ora (x : Via) : x.recomputeA.ora = x.ora := rfl
@[simp] theorem recomputeA_orb (x : Via) : x.recomputeA.orb = x.orb := rfl
@[simp] theorem recomputeA_ddra (x : Via) : x.recomputeA.ddra = x.ddra := rfl
@[simp] theorem recomputeA_ddrb (x : Via) : x.recomputeA.ddrb = x.ddrb := rfl
@[simp] theorem recomputeA_pa (x : Via) : x.recomputeA.pa = x.ora := rfl
@[simp] theorem recomputeA_pb (x : Via) : x.recomputeA.pb = x.pb := rfl
@[simp] theorem recomputeA_t1c (x : Via) : x.recomputeA.t1c = x.t1c := rfl
@[simp] theorem recomputeA_t1l (x : Via) : x.recomputeA.t1l = x.t1l := rfl
@[simp] theorem recomputeA_t1fired (x : Via) : x.recomputeA.t1fired = x.t1fired := rfl
@[simp] theorem recomputeA_t2c (x : Via) : x.recomputeA.t2c = x.t2c := rfl
@[simp] theorem recomputeA_t2l (x : Via) : x.recomputeA.t2l = x.t2l := rfl
@[simp] theorem recomputeA_t2fired (x : Via) : x.recomputeA.t2fired = x.t2fired := rfl
@[simp] theorem recomputeA_ca1 (x : Via) : x.recomputeA.ca1 = x.ca1 := rfl
@[simp] theorem recomputeA_ca2 (x : Via) : x.recomputeA.ca2 = x.ca2 := rfl
@[simp] theorem recomputeA_cb1 (x : Via) : x.recomputeA.cb1 = x.cb1 := rfl
@[simp] theorem recomputeA_cb2 (x : Via) : x.recomputeA.cb2 = x.cb2 := rfl
@[simp] theorem recomputeA_ca1Prev (x : Via) : x.recomputeA.ca1Prev = x.ca1Prev := rfl
@[simp] theorem recomputeA_ca2Prev (x : Via) : x.recomputeA.ca2Prev = x.ca2Prev := rfl
@[simp] theorem recomputeA_cb1Prev (x : Via) : x.recomputeA.cb1Prev = x.cb1Prev := rfl
@[simp] theorem recomputeA_cb2Prev (x : Via) : x.recomputeA.cb2Prev = x.cb2Prev := rfl
@[simp] theorem recomputeA_ifr (x : Via) : x.recomputeA.ifr = x.ifr := rfl
@[simp] theorem recomputeA_ier (x : Via) : x.recomputeA.ier = x.ier := rfl
@[simp] theorem recomputeA_acr (x : Via) : x.recomputeA.acr = x.acr := rfl
@[simp] theorem recomputeA_pcr (x : Via) : x.recomputeA.pcr = x.pcr := rfl
@[simp] theorem recomputeA_sr (x : Via) : x.recomputeA.sr = x.sr := rfl

@[simp] theorem recomputeB_ora (x : Via) : x.recomputeB.ora = x.ora := rfl
@[simp] theorem recomputeB_orb (x : Via) : x.recomputeB.orb = x.orb := rfl
@[simp] theorem recomputeB_ddra (x : Via) : x.recomputeB.ddra = x.ddra := rfl
@[simp] theorem recomputeB_ddrb (x : Via) : x.recomputeB.ddrb = x.ddrb := rfl
@[simp] theorem recomputeB_pa (x : Via) : x.recomputeB.pa = x.pa := rfl
@[simp] theorem recomputeB_pb (x : Via) :
    x.recomputeB.pb = (x.pb &&& ~~~x.ddrb) ||| (x.orb &&& x.ddrb) := rfl
@[simp] theorem recomputeB_t1c (x : Via) : x.recomputeB.t1c = x.t1c := rfl
@[simp] theorem recomputeB_t1l (x : Via) : x.recomputeB.t1l = x.t1l := rfl
@[simp] theorem recomputeB_t1fired (x : Via) : x.recomputeB.t1fired = x.t1fired := rfl
@[simp] theorem recomputeB_t2c (x : Via) : x.recomputeB.t2c = x.t2c := rfl
@[simp] theorem recomputeB_t2l (x : Via) : x.recomputeB.t2l = x.t2l := rfl
@[simp] theorem recomputeB_t2fired (x : Via) : x.recomputeB.t2fired = x.t2fired := rfl
@[simp] theorem recomputeB_ca1 (x : Via) : x.recomputeB.ca1 = x.ca1 := rfl
@[simp] theorem recomputeB_ca2 (x : Via) : x.recomputeB.ca2 = x.ca2 := rfl
@[simp] theorem recomputeB_cb1 (x : Via) : x.recomputeB.cb1 = x.cb1 := rfl
@[simp] theorem recomputeB_cb2 (x : Via) : x.recomputeB.cb2 = x.cb2 := rfl
@[simp] theorem recomputeB_ca1Prev (x : Via) : x.recomputeB.ca1Prev = x.ca1Prev := rfl
@[simp] theorem recomputeB_ca2Prev (x : Via) : x.recomputeB.ca2Prev = x.ca2Prev := rfl
@[simp] theorem recomputeB_cb1Prev (x : Via) : x.recomputeB.cb1Prev = x.cb1Prev := rfl
@[simp] theorem recomputeB_cb2Prev (x : Via) : x.recomputeB.cb2Prev = x.cb2Prev := rfl
@[simp] theorem recomputeB_ifr (x : Via) : x.recomputeB.ifr = x.ifr := rfl
@[simp] theorem recomputeB_ier (x : Via) : x.recomputeB.ier = x.ier := rfl
@[simp] theorem recomputeB_acr (x : Via) : x.recomputeB.acr = x.acr := rfl
@[simp] theorem recomputeB_pcr (x : Via) : x.recomputeB.pcr = x.pcr := rfl
@[simp] theorem recomputeB_sr (x : Via) : x.recomputeB.sr = x.sr := rfl

end Fields

end Sys2Proof.Machine
end

