-- ==== Sys2Proof/Laws/Memory.lean ====
section
/-! SUPPORT. The memory's laws: a read after a write, and that every memory operation keeps the canonical
form. -/

namespace Sys2Proof.Machine

open Sys2Proof

theorem canonicalFrom_cons {lo : Nat} {c : Host.Cell} {rest : List Host.Cell} :
    canonicalFrom lo (c :: rest) = true ↔
      lo ≤ c.1 ∧ c.1 < 65536 ∧ c.2 ≠ Memory.blank ∧ canonicalFrom (c.1 + 1) rest = true := by
  simp [canonicalFrom, and_assoc]

theorem canonicalFrom_mono {lo lo' : Nat} {cells : List Host.Cell} (h : lo' ≤ lo)
    (hc : canonicalFrom lo cells = true) : canonicalFrom lo' cells = true := by
  cases cells with
  | nil => rfl
  | cons c rest =>
    rw [canonicalFrom_cons] at hc ⊢
    exact ⟨h.trans hc.1, hc.2⟩

/-- An address below every listed one reads as the unlisted byte. -/
theorem readCells_below {lo a : Nat} {cells : List Host.Cell} (hc : canonicalFrom lo cells = true)
    (h : a < lo) : readCells cells a = Memory.blank := by
  induction cells generalizing lo with
  | nil => rfl
  | cons c rest ih =>
    rw [canonicalFrom_cons] at hc
    have hne : c.1 ≠ a := by omega
    simp only [readCells, if_neg hne]
    exact ih hc.2.2.2 (by omega)

theorem readCells_writeCells_same {lo a : Nat} {d : Byte} {cells : List Host.Cell}
    (hc : canonicalFrom lo cells = true) : readCells (writeCells cells a d) a = d := by
  induction cells generalizing lo with
  | nil =>
    by_cases hd : d = Memory.blank <;> simp [writeCells, readCells, hd]
  | cons c rest ih =>
    rw [canonicalFrom_cons] at hc
    obtain ⟨-, -, -, hr⟩ := hc
    by_cases hlt : a < c.1
    · by_cases hd : d = Memory.blank
      · have hne : c.1 ≠ a := by omega
        simp only [writeCells, if_pos hlt, if_pos hd, readCells, if_neg hne]
        rw [hd]; exact readCells_below hr (by omega)
      · simp [writeCells, hlt, hd, readCells]
    · by_cases heq : a = c.1
      · by_cases hd : d = Memory.blank
        · simp only [writeCells, if_neg hlt, if_pos heq, if_pos hd]
          rw [hd]; exact readCells_below hr (by omega)
        · simp [writeCells, heq, hd, readCells]
      · have hne : c.1 ≠ a := fun h => heq h.symm
        simp only [writeCells, if_neg hlt, if_neg heq, readCells, if_neg hne]
        exact ih hr

theorem readCells_writeCells_other {a b : Nat} {d : Byte} (cells : List Host.Cell) (h : b ≠ a) :
    readCells (writeCells cells a d) b = readCells cells b := by
  have hab : a ≠ b := fun e => h e.symm
  induction cells with
  | nil => by_cases hd : d = Memory.blank <;> simp [writeCells, readCells, hd, hab]
  | cons c rest ih =>
    by_cases hlt : a < c.1
    · by_cases hd : d = Memory.blank <;> simp [writeCells, hlt, hd, readCells, hab]
    · by_cases heq : a = c.1
      · have hcb : c.1 ≠ b := by omega
        by_cases hd : d = Memory.blank <;> simp [writeCells, heq, hd, readCells, hcb]
      · simp [writeCells, hlt, heq, readCells, ih]

theorem canonicalFrom_writeCells {lo a : Nat} {d : Byte} {cells : List Host.Cell}
    (hc : canonicalFrom lo cells = true) (hlo : lo ≤ a) (ha : a < 65536) :
    canonicalFrom lo (writeCells cells a d) = true := by
  induction cells generalizing lo with
  | nil =>
    by_cases hd : d = Memory.blank
    · simp [writeCells, hd, canonicalFrom]
    · simp [writeCells, hd, canonicalFrom, hlo, ha]
  | cons c rest ih =>
    have hc' := hc
    rw [canonicalFrom_cons] at hc
    obtain ⟨h1, h2, h3, hr⟩ := hc
    by_cases hlt : a < c.1
    · by_cases hd : d = Memory.blank
      · simpa [writeCells, hlt, hd] using hc'
      · simp only [writeCells, if_pos hlt, if_neg hd]
        rw [canonicalFrom_cons, canonicalFrom_cons]
        exact ⟨hlo, ha, hd, hlt, h2, h3, hr⟩
    · by_cases heq : a = c.1
      · by_cases hd : d = Memory.blank
        · simp only [writeCells, if_neg hlt, if_pos heq, if_pos hd]
          exact canonicalFrom_mono (by omega) hr
        · simp only [writeCells, if_neg hlt, if_pos heq, if_neg hd]
          rw [canonicalFrom_cons]
          exact ⟨hlo, ha, hd, by rw [heq]; exact hr⟩
      · simp only [writeCells, if_neg hlt, if_neg heq]
        rw [canonicalFrom_cons]
        exact ⟨h1, h2, h3, ih hr (by omega)⟩

/-- A read after a write to the same address gives the byte written. -/
theorem Memory.read_write_same {m : Memory} (h : m.wf = true) (a : Addr) (d : Byte) :
    (m.write a d).read a = d := readCells_writeCells_same h

/-- A write leaves every other address alone. -/
theorem Memory.read_write_other (m : Memory) {a b : Addr} (d : Byte) (h : b ≠ a) :
    (m.write a d).read b = m.read b :=
  readCells_writeCells_other m.cells (fun e => h (BitVec.eq_of_toNat_eq e))

/-- A write keeps the canonical form. -/
theorem Memory.write_wf {m : Memory} (h : m.wf = true) (a : Addr) (d : Byte) :
    (m.write a d).wf = true := canonicalFrom_writeCells h (Nat.zero_le _) a.isLt

/-- The memory that lists nothing is canonical. -/
theorem Memory.empty_wf : Memory.empty.wf = true := rfl

/-- A store of the state keeps the canonical form. -/
theorem State.storeByte_wf {s : State} (h : s.mem.wf = true) (a : Addr) (d : Byte) :
    (s.storeByte a d).mem.wf = true := Memory.write_wf h a d

end Sys2Proof.Machine
end

