-- ==== Sys2Proof/Laws/Ops.lean ====
section
/-! SUPPORT. For each shared operation, what it can do, said once. -/

namespace Sys2Proof.Machine

open Sys2Proof

section Decoding

theorem Reg.ofBits_bits (r : Reg) : Reg.ofBits r.bits = r := by cases r <;> rfl

theorem Reg.bits_ofBits (b : BitVec 4) : (Reg.ofBits b).bits = b := by revert b; decide

theorem Line.ofBits_bits (l : Line) : Line.ofBits l.bits = l := by cases l <;> rfl

theorem Port.ofBit_bit (p : Port) : Port.ofBit p.bit = p := by cases p <;> rfl

/-- What ioDecode can answer (R63). -/
theorem ioDecode_cases (p : Setup) (a : Addr) :
    (blockOf a = p.via1Block ∧ ioDecode p a = some (.via1, regOf a)) ∨
    (blockOf a ≠ p.via1Block ∧ blockOf a = p.via2Block ∧ p.viaCount = 2 ∧
      ioDecode p a = some (.via2, regOf a)) ∨
    (blockOf a ≠ p.via1Block ∧ ¬(blockOf a = p.via2Block ∧ p.viaCount = 2) ∧
      ioDecode p a = none) := by
  unfold ioDecode
  by_cases h1 : blockOf a = p.via1Block
  · exact .inl ⟨h1, if_pos h1⟩
  · by_cases h2 : blockOf a = p.via2Block ∧ p.viaCount = 2
    · exact .inr (.inl ⟨h1, h2.1, h2.2, by rw [if_neg h1, if_pos h2]⟩)
    · exact .inr (.inr ⟨h1, h2, by rw [if_neg h1, if_neg h2]⟩)

/-- The decode of an address does not depend on the mailbox capacity, the keyboard or the mode. -/
theorem ioDecode_congr {p q : Setup} (h1 : p.via1Block = q.via1Block) (h2 : p.via2Block = q.via2Block)
    (h3 : p.viaCount = q.viaCount) (a : Addr) : ioDecode p a = ioDecode q a := by
  simp [ioDecode, h1, h2, h3]

end Decoding

section Mailbox

/-- A push within the capacity stays within it (R47, R73). -/
theorem pushEntry_length {cap : Nat} {q : List Entry} (e : Entry) (hc : 1 ≤ cap)
    (h : q.length ≤ cap) : (pushEntry cap q e).length ≤ cap := by
  unfold pushEntry
  split
  · simp [List.length_tail]; omega
  · simp; omega

/-- A push adds its entry and no other (R73). -/
theorem mem_pushEntry {cap : Nat} {q : List Entry} {e e' : Entry} (h : e' ∈ pushEntry cap q e) :
    e' ∈ q ∨ e' = e := by
  unfold pushEntry at h
  split at h
  · rcases List.mem_append.1 h with h | h
    · exact .inl (List.mem_of_mem_tail h)
    · exact .inr (by simpa using h)
  · rcases List.mem_append.1 h with h | h
    · exact .inl h
    · exact .inr (by simpa using h)

/-- A push onto the empty mailbox holds its entry alone, whatever the capacity (R74). -/
theorem pushEntry_nil (cap : Nat) (e : Entry) : pushEntry cap [] e = [e] := by
  simp [pushEntry]

end Mailbox

section BusCycles

/-- What a read bus cycle can do (R110): return a byte, and in one case leave an instance as its READ_REG
does. -/
theorem busRd_cases (s : State) (a : Addr) :
    (classify s.pt a ≠ .mappedIO ∧ s.busRd a = s.rdPlain a) ∨
    (classify s.pt a = .mappedIO ∧ ioDecode s.setup a = none ∧ s.busRd a = s.rdUnmapped) ∨
    (∃ v r, classify s.pt a = .mappedIO ∧ ioDecode s.setup a = some (v, r) ∧
      s.busRd a = s.rdVia v r) := by
  unfold State.busRd
  cases hc : classify s.pt a with
  | ram => exact .inl ⟨by simp, rfl⟩
  | rom => exact .inl ⟨by simp, rfl⟩
  | mappedIO =>
    cases hd : ioDecode s.setup a with
    | none => exact .inr (.inl ⟨rfl, rfl, rfl⟩)
    | some p => exact .inr (.inr ⟨p.1, p.2, rfl, rfl, rfl⟩)

/-- What a write bus cycle can do (R111). -/
theorem busWrStore_cases (s : State) (a : Addr) (d : Byte) :
    (classify s.pt a = .ram ∧ s.busWrStore a d = s.storeByte a d) ∨
    (classify s.pt a = .rom ∧ s.busWrStore a d = s) ∨
    (classify s.pt a = .mappedIO ∧ ioDecode s.setup a = none ∧
      s.busWrStore a d = s.storeByte a d) ∨
    (∃ p, classify s.pt a = .mappedIO ∧ ioDecode s.setup a = some p ∧
      s.busWrStore a d = (s.storeByte a d).enqueue a d) := by
  unfold State.busWrStore
  cases hc : classify s.pt a with
  | ram => exact .inl ⟨rfl, rfl⟩
  | rom => exact .inr (.inl ⟨rfl, rfl⟩)
  | mappedIO =>
    cases hd : ioDecode s.setup a with
    | none => exact .inr (.inr (.inl ⟨rfl, rfl, rfl⟩))
    | some p => exact .inr (.inr (.inr ⟨p, rfl, rfl, rfl⟩))

end BusCycles

section Timers

/-- What t1_step can do (R191). -/
theorem t1Step_cases (x : Via) (n : Nat) :
    (0 < countDown x.t1c n ∧ x.t1Step n = { x with t1c := BitVec.ofInt 16 (countDown x.t1c n) }) ∨
    (countDown x.t1c n ≤ 0 ∧ x.acr.getLsbD 6 = true ∧ x.t1Step n =
      { x with t1c := BitVec.ofInt 16 (countDown x.t1c n + x.t1l.toNat + 2), ifr := x.ifr ||| flagT1 }) ∨
    (countDown x.t1c n ≤ 0 ∧ x.acr.getLsbD 6 = false ∧ x.t1fired = false ∧ x.t1Step n =
      { x with t1c := BitVec.ofInt 16 (countDown x.t1c n + 0xFFFF), t1fired := true, ifr := x.ifr ||| flagT1 }) ∨
    (countDown x.t1c n ≤ 0 ∧ x.acr.getLsbD 6 = false ∧ x.t1fired = true ∧ x.t1Step n =
      { x with t1c := BitVec.ofInt 16 (countDown x.t1c n) }) := by
  unfold Via.t1Step
  by_cases h : 0 < countDown x.t1c n
  · exact .inl ⟨h, by simp [h]⟩
  · cases h6 : x.acr.getLsbD 6 with
    | true => exact .inr (.inl ⟨by omega, rfl, by simp [h, Via.raiseFlags]⟩)
    | false =>
      cases hf : x.t1fired with
      | false => exact .inr (.inr (.inl ⟨by omega, rfl, rfl, by simp [h, Via.raiseFlags]⟩))
      | true => exact .inr (.inr (.inr ⟨by omega, rfl, rfl, by simp [h]⟩))

/-- What t2_step can do (R192). -/
theorem t2Step_cases (x : Via) (n : Nat) :
    (x.acr.getLsbD 5 = true ∧ x.t2Step n = x) ∨
    (x.acr.getLsbD 5 = false ∧ 0 < countDown x.t2c n ∧ x.t2Step n =
      { x with t2c := BitVec.ofInt 16 (countDown x.t2c n) }) ∨
    (x.acr.getLsbD 5 = false ∧ countDown x.t2c n ≤ 0 ∧ x.t2fired = false ∧ x.t2Step n =
      { x with t2c := BitVec.ofInt 16 (countDown x.t2c n + 0xFFFF), t2fired := true, ifr := x.ifr ||| flagT2 }) ∨
    (x.acr.getLsbD 5 = false ∧ countDown x.t2c n ≤ 0 ∧ x.t2fired = true ∧ x.t2Step n =
      { x with t2c := BitVec.ofInt 16 (countDown x.t2c n) }) := by
  unfold Via.t2Step
  cases h5 : x.acr.getLsbD 5 with
  | true => exact .inl ⟨rfl, by simp⟩
  | false =>
    by_cases h : 0 < countDown x.t2c n
    · exact .inr (.inl ⟨rfl, h, by simp [h]⟩)
    · cases hf : x.t2fired with
      | false => exact .inr (.inr (.inl ⟨rfl, by omega, rfl, by simp [h, Via.raiseFlags]⟩))
      | true => exact .inr (.inr (.inr ⟨rfl, by omega, rfl, by simp [h]⟩))

/-- What the CA1 half of edge_step leaves (R193). -/
theorem edgeCa1_eq (x : Via) :
    x.edgeCa1 = { x with
      ca1Prev := x.ca1
      ifr := x.ifr ||| (if x.ca1 ≠ x.ca1Prev ∧ x.ca1 = x.pcr.getLsbD 0 then flagCa1 else 0#7) } := by
  unfold Via.edgeCa1 Via.raiseFlags
  by_cases h : x.ca1 = x.ca1Prev
  · cases x; simp_all
  · simp [h]

/-- What the CB1 half of edge_step leaves (R193). -/
theorem edgeCb1_eq (x : Via) :
    x.edgeCb1 = { x with
      cb1Prev := x.cb1
      ifr := x.ifr ||| (if x.cb1 ≠ x.cb1Prev ∧ x.cb1 = x.pcr.getLsbD 4 then flagCb1 else 0#7) } := by
  unfold Via.edgeCb1 Via.raiseFlags
  by_cases h : x.cb1 = x.cb1Prev
  · cases x; simp_all
  · simp [h]

/-- What edge_step leaves (R193): the remembered values follow the lines, and IFR gains at most the flags of the
two lines. -/
theorem edgeStep_eq (x : Via) :
    x.edgeStep = { x with
      ca1Prev := x.ca1
      cb1Prev := x.cb1
      ifr := x.ifr |||
        (if x.ca1 ≠ x.ca1Prev ∧ x.ca1 = x.pcr.getLsbD 0 then flagCa1 else 0#7) |||
        (if x.cb1 ≠ x.cb1Prev ∧ x.cb1 = x.pcr.getLsbD 4 then flagCb1 else 0#7) } := by
  rw [Via.edgeStep, edgeCb1_eq, edgeCa1_eq]

end Timers

section Dispatch

/-- One drained entry changes an instance and nothing else (R233). -/
theorem applyEntry_cases (s : State) (e : Entry) :
    s.applyEntry e = s ∨ ∃ v r, ioDecode s.setup e.addr = some (v, r) ∧
      s.applyEntry e = s.setVia v ((s.via v).writeReg r e.data) := by
  unfold State.applyEntry
  cases h : ioDecode s.setup e.addr with
  | none => exact .inl rfl
  | some p => exact .inr ⟨p.1, p.2, rfl, rfl⟩

/-- A property of states that every WRITE_REG of an instance keeps holds after any entries are applied. -/
theorem applyEntries_keep {P : State → Prop}
    (h : ∀ s v r d, P s → P (s.setVia v ((s.via v).writeReg r d))) (q : List Entry) (s : State)
    (hs : P s) : P (q.foldl State.applyEntry s) := by
  induction q generalizing s with
  | nil => exact hs
  | cons e rest ih =>
    refine ih _ ?_
    rcases applyEntry_cases s e with he | ⟨v, r, -, he⟩ <;> rw [he]
    · exact hs
    · exact h _ _ _ _ hs

/-- The drain touches the instances and the mailbox alone, and leaves the mailbox empty (R233). -/
theorem drain_frame (s : State) :
    s.drain.mem = s.mem ∧ s.drain.pt = s.pt ∧ s.drain.mbox = [] ∧ s.drain.irq = s.irq ∧
    s.drain.ticks = s.ticks ∧ s.drain.dispatched = s.dispatched ∧ s.drain.setup = s.setup ∧
    s.drain.inputs = s.inputs ∧ s.drain.result = s.result ∧ s.drain.draws = s.draws :=
  applyEntries_keep
    (P := fun t => t.mem = s.mem ∧ t.pt = s.pt ∧ t.mbox = [] ∧ t.irq = s.irq ∧ t.ticks = s.ticks ∧
      t.dispatched = s.dispatched ∧ t.setup = s.setup ∧ t.inputs = s.inputs ∧ t.result = s.result ∧
      t.draws = s.draws)
    (fun t v r d h => by simpa using h) s.mbox _ ⟨rfl, rfl, rfl, rfl, rfl, rfl, rfl, rfl, rfl, rfl⟩

/-- With no entry waiting, the drain does nothing. -/
theorem drain_nil {s : State} (h : s.mbox = []) : s.drain = s := by
  unfold State.drain
  rw [h]
  show ({ s with mbox := [] } : State) = s
  rw [← h]

/-- The keyboard push touches one instance alone (R236). -/
theorem kbdStep_frame (s : State) (m : KeyMatrix) :
    (s.kbdStep m).mem = s.mem ∧ (s.kbdStep m).pt = s.pt ∧ (s.kbdStep m).mbox = s.mbox ∧
    (s.kbdStep m).irq = s.irq ∧ (s.kbdStep m).ticks = s.ticks ∧
    (s.kbdStep m).dispatched = s.dispatched ∧ (s.kbdStep m).setup = s.setup ∧
    (s.kbdStep m).inputs = s.inputs ∧ (s.kbdStep m).result = s.result ∧
    (s.kbdStep m).draws = s.draws := by
  unfold State.kbdStep State.kbdPush
  split <;> simp

/-- The dispatch phase touches the instances, the mailbox, which it empties, and IRQ (R232). -/
theorem dispatchPhase_frame (s : State) (m : KeyMatrix) (n : Nat) :
    (s.dispatchPhase m n).mem = s.mem ∧ (s.dispatchPhase m n).pt = s.pt ∧
    (s.dispatchPhase m n).mbox = [] ∧ (s.dispatchPhase m n).ticks = s.ticks ∧
    (s.dispatchPhase m n).dispatched = s.dispatched ∧ (s.dispatchPhase m n).setup = s.setup ∧
    (s.dispatchPhase m n).inputs = s.inputs ∧ (s.dispatchPhase m n).result = s.result ∧
    (s.dispatchPhase m n).draws = s.draws := by
  obtain ⟨d1, d2, d3, d4, d5, d6, d7, d8, d9, d10⟩ := drain_frame s
  obtain ⟨k1, k2, k3, k4, k5, k6, k7, k8, k9, k10⟩ := kbdStep_frame s.drain m
  exact ⟨k1.trans d1, k2.trans d2, k3.trans d3, k5.trans d5, k6.trans d6, k7.trans d7, k8.trans d8,
    k9.trans d9, k10.trans d10⟩

/-- The level the dispatch phase drives is the level of the state it leaves (R237). -/
theorem dispatchPhase_irq (s : State) (m : KeyMatrix) (n : Nat) :
    (s.dispatchPhase m n).irq = (s.dispatchPhase m n).irqLevel := by
  simp only [State.dispatchPhase, State.irqLevel, State.tickVias, State.tickResults, Via.tick]
  by_cases h : (s.drain.kbdStep m).setup.viaCount = 2 <;> simp [h]

end Dispatch

section Exec

/-- Every operation completes (R250). -/
theorem exec_answers_next (i : Instr) (s : State) : ∃ t, exec i s = .next t := by
  cases i <;> exact ⟨_, rfl⟩

/-- What a step does with a setup that is accepted: it takes the next input. -/
theorem step_of_check {s : State} (h : s.setup.check = none) : step s = runNext s := by
  simp [step, runStep, h]

/-- What a step can answer with, when it answers next (R230, R235, R241 to R243, R264). -/
theorem step_next_cases {s t : State} (h : step s = .next t) :
    s.setup.check = none ∧
    ((s.inputs = [] ∧ t = s) ∨
     (∃ w m rest u, s.inputs = .bus w m :: rest ∧
       exec (decodeBus w) { s with inputs := rest } = .next u ∧ t = u.afterBusPhase m) ∨
     (∃ v w rest i, s.inputs = .call v w :: rest ∧ decodeViaop v w = .ok i ∧
       exec i { s with inputs := rest } = .next t) ∨
     (∃ m rest, s.inputs = .dispatch m :: rest ∧ s.dispatchDue = true ∧
       t = ({ s with inputs := rest } : State).dispatchStep m) ∨
     (∃ w m rest v r, s.inputs = .overlap w m :: rest ∧ s.dispatchDue = true ∧
       viaRead s w = some (v, r) ∧ t = ({ s with inputs := rest } : State).overlapStep v r m) ∨
     (∃ m rest, s.inputs = .shutdown m :: rest ∧
       t = ({ s with inputs := rest } : State).shutdownQuantum m)) := by
  cases hs : s.setup.check with
  | some f => simp [step, runStep, hs] at h
  | none =>
    rw [step_of_check hs, runNext] at h
    refine ⟨rfl, ?_⟩
    cases hi : s.inputs with
    | nil => rw [hi] at h; exact .inl ⟨rfl, by simpa using h.symm⟩
    | cons e rest =>
      rw [hi] at h
      cases e with
      | bus w m =>
        obtain ⟨u, hu⟩ := exec_answers_next (decodeBus w) { s with inputs := rest }
        refine .inr (.inl ⟨w, m, rest, u, rfl, hu, ?_⟩)
        simpa [runInput, decode, runDecoded, hu, completeTick] using h.symm
      | call v w =>
        simp only [runInput, decode] at h
        cases hd : decodeViaop v w with
        | ok i => rw [hd] at h; exact .inr (.inr (.inl ⟨v, w, rest, i, rfl, hd, h⟩))
        | error e => simp [hd, runDecoded] at h
      | dispatch m =>
        simp only [runInput, runDispatch] at h
        split at h
        · exact .inr (.inr (.inr (.inl ⟨m, rest, rfl, by assumption, by simpa using h.symm⟩)))
        · cases h
      | overlap w m =>
        simp only [runInput, runOverlap] at h
        split at h
        · exact .inr (.inr (.inr (.inr (.inl
            ⟨w, m, rest, _, _, rfl, by assumption, by assumption, by simpa using h.symm⟩))))
        · cases h
        · cases h
      | shutdown m =>
        exact .inr (.inr (.inr (.inr (.inr ⟨m, rest, rfl, by simpa [runInput] using h.symm⟩))))
      | lateCycle => simp [runInput] at h

end Exec

end Sys2Proof.Machine
end

