-- ==== Sys2Proof/Laws/PerInstr.lean ====
section
/-! SUPPORT. The statements made per operation: one lemma per constructor of `Instr`. -/

namespace Sys2Proof.Laws

open Sys2Proof

/-- The encoded word of a well-formed operation is in the opcode table's row of its own mnemonic (R101). -/
def EncodeRow.Statement (i : Instr) : Prop :=
  i.wf = true →
    match encode i with
    | .bus w => ∃ r ∈ busTable, r.mnemonic = i.mnemonic ∧ r.holds w = true
    | .call _ w => ∃ r ∈ viaopTable, r.mnemonic = i.mnemonic ∧ r.holds w = true

/-- Masking off the low part of a word leaves its upper part. -/
theorem append_and_mask {m k : Nat} (h : BitVec m) (d : BitVec k) :
    (h ++ d) &&& (BitVec.allOnes m ++ 0#k) = h ++ 0#k := by
  ext i hi
  simp only [BitVec.getElem_and, BitVec.getElem_append]
  split <;> simp

/-- A word is in the row that fixes its high byte and leaves its low byte free. -/
theorem byteRow_holds (name : String) (h : BitVec 8) (d : Byte) :
    (⟨name, h ++ 0#8, 0xFF00#16⟩ : TableRow 16).holds (h ++ d) = true := by
  simpa [TableRow.holds] using append_and_mask h d

theorem EncodeRow.busRd (a : Addr) : EncodeRow.Statement (.busRd a) := fun _ =>
  ⟨⟨"BUS_RD", 0x1000000#25, 0x1000000#25⟩,
    by decide, rfl, by
    simpa [TableRow.holds] using congrArg (· == (1#1 ++ 0#24)) (append_and_mask 1#1 (a ++ 0#8))⟩

theorem EncodeRow.busWr (a : Addr) (d : Byte) : EncodeRow.Statement (.busWr a d) := fun _ =>
  ⟨⟨"BUS_WR", 0x0000000#25, 0x1000000#25⟩,
    by decide, rfl, by
    simpa [TableRow.holds] using congrArg (· == (0#1 ++ 0#24)) (append_and_mask 0#1 (a ++ d))⟩

theorem EncodeRow.rdOrbIrb (v : ViaId) : EncodeRow.Statement (.rdOrbIrb v) := fun _ =>
  ⟨⟨"RD_ORB_IRB", 0x1000#16, 0xFFFF#16⟩,
    by decide, rfl, rfl⟩

theorem EncodeRow.rdOraIra (v : ViaId) : EncodeRow.Statement (.rdOraIra v) := fun _ =>
  ⟨⟨"RD_ORA_IRA", 0x1100#16, 0xFFFF#16⟩,
    by decide, rfl, rfl⟩

theorem EncodeRow.rdDdrb (v : ViaId) : EncodeRow.Statement (.rdDdrb v) := fun _ =>
  ⟨⟨"RD_DDRB", 0x1200#16, 0xFFFF#16⟩,
    by decide, rfl, rfl⟩

theorem EncodeRow.rdDdra (v : ViaId) : EncodeRow.Statement (.rdDdra v) := fun _ =>
  ⟨⟨"RD_DDRA", 0x1300#16, 0xFFFF#16⟩,
    by decide, rfl, rfl⟩

theorem EncodeRow.rdT1cL (v : ViaId) : EncodeRow.Statement (.rdT1cL v) := fun _ =>
  ⟨⟨"RD_T1C_L", 0x1400#16, 0xFFFF#16⟩,
    by decide, rfl, rfl⟩

theorem EncodeRow.rdT1cH (v : ViaId) : EncodeRow.Statement (.rdT1cH v) := fun _ =>
  ⟨⟨"RD_T1C_H", 0x1500#16, 0xFFFF#16⟩,
    by decide, rfl, rfl⟩

theorem EncodeRow.rdT1lL (v : ViaId) : EncodeRow.Statement (.rdT1lL v) := fun _ =>
  ⟨⟨"RD_T1L_L", 0x1600#16, 0xFFFF#16⟩,
    by decide, rfl, rfl⟩

theorem EncodeRow.rdT1lH (v : ViaId) : EncodeRow.Statement (.rdT1lH v) := fun _ =>
  ⟨⟨"RD_T1L_H", 0x1700#16, 0xFFFF#16⟩,
    by decide, rfl, rfl⟩

theorem EncodeRow.rdT2cL (v : ViaId) : EncodeRow.Statement (.rdT2cL v) := fun _ =>
  ⟨⟨"RD_T2C_L", 0x1800#16, 0xFFFF#16⟩,
    by decide, rfl, rfl⟩

theorem EncodeRow.rdT2cH (v : ViaId) : EncodeRow.Statement (.rdT2cH v) := fun _ =>
  ⟨⟨"RD_T2C_H", 0x1900#16, 0xFFFF#16⟩,
    by decide, rfl, rfl⟩

theorem EncodeRow.rdSr (v : ViaId) : EncodeRow.Statement (.rdSr v) := fun _ =>
  ⟨⟨"RD_SR", 0x1A00#16, 0xFFFF#16⟩,
    by decide, rfl, rfl⟩

theorem EncodeRow.rdAcr (v : ViaId) : EncodeRow.Statement (.rdAcr v) := fun _ =>
  ⟨⟨"RD_ACR", 0x1B00#16, 0xFFFF#16⟩,
    by decide, rfl, rfl⟩

theorem EncodeRow.rdPcr (v : ViaId) : EncodeRow.Statement (.rdPcr v) := fun _ =>
  ⟨⟨"RD_PCR", 0x1C00#16, 0xFFFF#16⟩,
    by decide, rfl, rfl⟩

theorem EncodeRow.rdIfr (v : ViaId) : EncodeRow.Statement (.rdIfr v) := fun _ =>
  ⟨⟨"RD_IFR", 0x1D00#16, 0xFFFF#16⟩,
    by decide, rfl, rfl⟩

theorem EncodeRow.rdIer (v : ViaId) : EncodeRow.Statement (.rdIer v) := fun _ =>
  ⟨⟨"RD_IER", 0x1E00#16, 0xFFFF#16⟩,
    by decide, rfl, rfl⟩

theorem EncodeRow.rdOraIraNh (v : ViaId) : EncodeRow.Statement (.rdOraIraNh v) := fun _ =>
  ⟨⟨"RD_ORA_IRA_NH", 0x1F00#16, 0xFFFF#16⟩,
    by decide, rfl, rfl⟩

theorem EncodeRow.wrOrb (v : ViaId) (d : Byte) : EncodeRow.Statement (.wrOrb v d) := fun _ =>
  ⟨⟨"WR_ORB", 0x0000#16, 0xFF00#16⟩,
    by decide, rfl, byteRow_holds _ 0x00#8 d⟩

theorem EncodeRow.wrOra (v : ViaId) (d : Byte) : EncodeRow.Statement (.wrOra v d) := fun _ =>
  ⟨⟨"WR_ORA", 0x0100#16, 0xFF00#16⟩,
    by decide, rfl, byteRow_holds _ 0x01#8 d⟩

theorem EncodeRow.wrDdrb (v : ViaId) (d : Byte) : EncodeRow.Statement (.wrDdrb v d) := fun _ =>
  ⟨⟨"WR_DDRB", 0x0200#16, 0xFF00#16⟩,
    by decide, rfl, byteRow_holds _ 0x02#8 d⟩

theorem EncodeRow.wrDdra (v : ViaId) (d : Byte) : EncodeRow.Statement (.wrDdra v d) := fun _ =>
  ⟨⟨"WR_DDRA", 0x0300#16, 0xFF00#16⟩,
    by decide, rfl, byteRow_holds _ 0x03#8 d⟩

theorem EncodeRow.wrT1cL (v : ViaId) (d : Byte) : EncodeRow.Statement (.wrT1cL v d) := fun _ =>
  ⟨⟨"WR_T1C_L", 0x0400#16, 0xFF00#16⟩,
    by decide, rfl, byteRow_holds _ 0x04#8 d⟩

theorem EncodeRow.wrT1cH (v : ViaId) (d : Byte) : EncodeRow.Statement (.wrT1cH v d) := fun _ =>
  ⟨⟨"WR_T1C_H", 0x0500#16, 0xFF00#16⟩,
    by decide, rfl, byteRow_holds _ 0x05#8 d⟩

theorem EncodeRow.wrT1lL (v : ViaId) (d : Byte) : EncodeRow.Statement (.wrT1lL v d) := fun _ =>
  ⟨⟨"WR_T1L_L", 0x0600#16, 0xFF00#16⟩,
    by decide, rfl, byteRow_holds _ 0x06#8 d⟩

theorem EncodeRow.wrT1lH (v : ViaId) (d : Byte) : EncodeRow.Statement (.wrT1lH v d) := fun _ =>
  ⟨⟨"WR_T1L_H", 0x0700#16, 0xFF00#16⟩,
    by decide, rfl, byteRow_holds _ 0x07#8 d⟩

theorem EncodeRow.wrT2cL (v : ViaId) (d : Byte) : EncodeRow.Statement (.wrT2cL v d) := fun _ =>
  ⟨⟨"WR_T2C_L", 0x0800#16, 0xFF00#16⟩,
    by decide, rfl, byteRow_holds _ 0x08#8 d⟩

theorem EncodeRow.wrT2cH (v : ViaId) (d : Byte) : EncodeRow.Statement (.wrT2cH v d) := fun _ =>
  ⟨⟨"WR_T2C_H", 0x0900#16, 0xFF00#16⟩,
    by decide, rfl, byteRow_holds _ 0x09#8 d⟩

theorem EncodeRow.wrSr (v : ViaId) (d : Byte) : EncodeRow.Statement (.wrSr v d) := fun _ =>
  ⟨⟨"WR_SR", 0x0A00#16, 0xFF00#16⟩,
    by decide, rfl, byteRow_holds _ 0x0A#8 d⟩

theorem EncodeRow.wrAcr (v : ViaId) (d : Byte) : EncodeRow.Statement (.wrAcr v d) := fun _ =>
  ⟨⟨"WR_ACR", 0x0B00#16, 0xFF00#16⟩,
    by decide, rfl, byteRow_holds _ 0x0B#8 d⟩

theorem EncodeRow.wrPcr (v : ViaId) (d : Byte) : EncodeRow.Statement (.wrPcr v d) := fun _ =>
  ⟨⟨"WR_PCR", 0x0C00#16, 0xFF00#16⟩,
    by decide, rfl, byteRow_holds _ 0x0C#8 d⟩

theorem EncodeRow.wrIfr (v : ViaId) (d : Byte) : EncodeRow.Statement (.wrIfr v d) := fun _ =>
  ⟨⟨"WR_IFR", 0x0D00#16, 0xFF00#16⟩,
    by decide, rfl, byteRow_holds _ 0x0D#8 d⟩

theorem EncodeRow.wrIer (v : ViaId) (d : Byte) : EncodeRow.Statement (.wrIer v d) := fun _ =>
  ⟨⟨"WR_IER", 0x0E00#16, 0xFF00#16⟩,
    by decide, rfl, byteRow_holds _ 0x0E#8 d⟩

theorem EncodeRow.wrOraNh (v : ViaId) (d : Byte) : EncodeRow.Statement (.wrOraNh v d) := fun _ =>
  ⟨⟨"WR_ORA_NH", 0x0F00#16, 0xFF00#16⟩,
    by decide, rfl, byteRow_holds _ 0x0F#8 d⟩

theorem EncodeRow.tick (v : ViaId) (n : BitVec 12) : EncodeRow.Statement (.tick v n) := fun _ =>
  ⟨⟨"TICK", 0x2000#16, 0xF000#16⟩,
    by decide, rfl, by
    simpa [TableRow.holds] using congrArg (· == (2#4 ++ 0#12)) (append_and_mask 2#4 n)⟩

theorem EncodeRow.reset (v : ViaId) : EncodeRow.Statement (.reset v) := fun _ =>
  ⟨⟨"RESET", 0x3000#16, 0xFFFF#16⟩,
    by decide, rfl, rfl⟩

theorem EncodeRow.setCa1 (v : ViaId) (b : Bool) : EncodeRow.Statement (.setCa1 v b) := fun _ =>
  ⟨⟨"SET_CA1", 0x4000#16, 0xFFFE#16⟩,
    by decide, rfl, by cases b <;> rfl⟩

theorem EncodeRow.setCa2 (v : ViaId) (b : Bool) : EncodeRow.Statement (.setCa2 v b) := fun _ =>
  ⟨⟨"SET_CA2", 0x4100#16, 0xFFFE#16⟩,
    by decide, rfl, by cases b <;> rfl⟩

theorem EncodeRow.setCb1 (v : ViaId) (b : Bool) : EncodeRow.Statement (.setCb1 v b) := fun _ =>
  ⟨⟨"SET_CB1", 0x4200#16, 0xFFFE#16⟩,
    by decide, rfl, by cases b <;> rfl⟩

theorem EncodeRow.setCb2 (v : ViaId) (b : Bool) : EncodeRow.Statement (.setCb2 v b) := fun _ =>
  ⟨⟨"SET_CB2", 0x4300#16, 0xFFFE#16⟩,
    by decide, rfl, by cases b <;> rfl⟩

theorem EncodeRow.setPa (v : ViaId) (d : Byte) : EncodeRow.Statement (.setPa v d) := fun _ =>
  ⟨⟨"SET_PA", 0x5000#16, 0xFF00#16⟩,
    by decide, rfl, byteRow_holds _ 0x50#8 d⟩

theorem EncodeRow.setPb (v : ViaId) (d : Byte) : EncodeRow.Statement (.setPb v d) := fun _ =>
  ⟨⟨"SET_PB", 0x5100#16, 0xFF00#16⟩,
    by decide, rfl, byteRow_holds _ 0x51#8 d⟩

theorem EncodeRow.getCa1 (v : ViaId) : EncodeRow.Statement (.getCa1 v) := fun _ =>
  ⟨⟨"GET_CA1", 0x6000#16, 0xFFFF#16⟩,
    by decide, rfl, rfl⟩

theorem EncodeRow.getCa2 (v : ViaId) : EncodeRow.Statement (.getCa2 v) := fun _ =>
  ⟨⟨"GET_CA2", 0x6100#16, 0xFFFF#16⟩,
    by decide, rfl, rfl⟩

theorem EncodeRow.getCb1 (v : ViaId) : EncodeRow.Statement (.getCb1 v) := fun _ =>
  ⟨⟨"GET_CB1", 0x6200#16, 0xFFFF#16⟩,
    by decide, rfl, rfl⟩

theorem EncodeRow.getCb2 (v : ViaId) : EncodeRow.Statement (.getCb2 v) := fun _ =>
  ⟨⟨"GET_CB2", 0x6300#16, 0xFFFF#16⟩,
    by decide, rfl, rfl⟩

theorem EncodeRow.getPa (v : ViaId) : EncodeRow.Statement (.getPa v) := fun _ =>
  ⟨⟨"GET_PA", 0x7000#16, 0xFFFF#16⟩,
    by decide, rfl, rfl⟩

theorem EncodeRow.getPb (v : ViaId) : EncodeRow.Statement (.getPb v) := fun _ =>
  ⟨⟨"GET_PB", 0x7100#16, 0xFFFF#16⟩,
    by decide, rfl, rfl⟩

end Sys2Proof.Laws
end

