-- ==== Sys2Proof/Machine/Assembly.lean ====
section
/-! DEFINITION. The spec's notation (spec/30_encoding.md R99) and its pseudo-instructions (R100): a line of text
is read as the operation it stands for, and a text as the inputs of the block. Nothing of the machine rests on
this file. -/

namespace Sys2Proof.Machine

open Sys2Proof

/-- What one line of text stands for (R99, R100). -/
inductive AsmLine where
  /-- A bus cycle: one tick. -/
  | cycle (i : Instr)
  /-- A call on an instance. -/
  | call (i : Instr)
  /-- A host event at the tick boundary before the next bus line (R235). -/
  | host (e : HostEvent)
  /-- A pseudo-instruction. -/
  | pseudo (p : Pseudo)
  /-- No operation: an empty line or a comment. -/
  | blank
deriving DecidableEq, Repr

/-- A finished token, when it is not empty; characters are kept latest first. -/
def flushToken (cur : List Char) : List (List Char) :=
  match cur with
  | [] => []
  | c :: rest => [(c :: rest).reverse]

/-- The tokens of a line, in lower case (mnemonics are case-insensitive); ';' starts a comment, and ',' and '.'
stand alone. -/
def tokens : List Char → List Char → List (List Char)
  | [], cur => flushToken cur
  | c :: rest, cur =>
    if c = ';' then flushToken cur
    else if c = ' ' ∨ c = '\t' then flushToken cur ++ tokens rest []
    else if c = ',' ∨ c = '.' then flushToken cur ++ [c] :: tokens rest []
    else tokens rest (c.toLower :: cur)

/-- The value of a digit in a base up to 16; the character is in lower case. -/
def digitValue (base : Nat) (c : Char) : Option Nat :=
  let n := if c.toNat < 97 then c.toNat - 48 else c.toNat - 87
  if (48 ≤ c.toNat ∧ c.toNat ≤ 57 ∨ 97 ≤ c.toNat ∧ c.toNat ≤ 102) ∧ n < base then some n else none

/-- The value of a run of digits, added to what stands before them. -/
def digitsValue (base : Nat) : List Char → Nat → Option Nat
  | [], n => some n
  | c :: rest, n =>
    match digitValue base c with
    | some k => digitsValue base rest (n * base + k)
    | none => none

/-- A number: hexadecimal with 0x, or decimal (R99). -/
def numberValue : List Char → Option Nat
  | [] => none
  | ['0', 'x'] => none
  | '0' :: 'x' :: c :: rest => digitsValue 16 (c :: rest) 0
  | c :: rest => digitsValue 10 (c :: rest) 0

/-- A number that fits in a width. -/
def fieldValue (w : Nat) (t : List Char) : Option (BitVec w) :=
  match numberValue t with
  | some n => if n < 2 ^ w then some (BitVec.ofNat w n) else none
  | none => none

/-- The register names of R92, in lower case. -/
def regNames : List (List Char × Reg) :=
  [("orb_irb".toList, .orbIrb), ("ora_ira".toList, .oraIra), ("ddrb".toList, .ddrb),
   ("ddra".toList, .ddra), ("t1c_l".toList, .t1cL), ("t1c_h".toList, .t1cH), ("t1l_l".toList, .t1lL),
   ("t1l_h".toList, .t1lH), ("t2c_l".toList, .t2cL), ("t2c_h".toList, .t2cH), ("sr".toList, .sr),
   ("acr".toList, .acr), ("pcr".toList, .pcr), ("ifr".toList, .ifr), ("ier".toList, .ier),
   ("ora_ira_nh".toList, .oraIraNh)]

/-- The shorter names that spec/95_test_vectors.md V-PORT writes. -/
def shortRegNames : List (List Char × Reg) :=
  [("orb".toList, .orbIrb), ("ora".toList, .oraIra), ("ora_nh".toList, .oraIraNh)]

/-- A register by its name, or as RS and its number (R99). -/
def regValue (t : List Char) : Option Reg :=
  match (regNames ++ shortRegNames).lookup t with
  | some r => some r
  | none =>
    match t with
    | 'r' :: 's' :: n =>
      match digitsValue 10 n 0 with
      | some k => if n ≠ [] ∧ k < 16 then some (Reg.ofBits (BitVec.ofNat 4 k)) else none
      | none => none
    | _ => none

/-- A control line by its name. -/
def lineName (t : List Char) : Option Line :=
  [("ca1".toList, Line.ca1), ("ca2".toList, Line.ca2), ("cb1".toList, Line.cb1),
   ("cb2".toList, Line.cb2)].lookup t

/-- A port by its name. -/
def portName (t : List Char) : Option Port :=
  [("a".toList, Port.a), ("b".toList, Port.b)].lookup t

/-- An instance by its name. -/
def viaName (t : List Char) : Option ViaId :=
  [("via1".toList, ViaId.via1), ("via2".toList, ViaId.via2)].lookup t

/-- The host events of a call (R99, R235). -/
def readEvent (v : ViaId) (op : List Char) (args : List (List Char)) : Option HostEvent :=
  match args with
  | [] => if op = "reset".toList then some (.reset v) else none
  | [t] =>
    if op = "getline".toList then (lineName t).map (.getLine v)
    else if op = "getport".toList then (portName t).map (.getPort v)
    else none
  | [t, c, n] =>
    if c ≠ [','] then none
    else if op = "setline".toList then
      match lineName t, fieldValue 1 n with
      | some l, some b => some (.setLine v l (b == 1#1))
      | _, _ => none
    else if op = "setport".toList then
      match portName t, fieldValue 8 n with
      | some p, some d => some (.setPort v p d)
      | _, _ => none
    else none
  | _ => none

/-- A call on an instance (R99). -/
def readCallText (v : ViaId) (op : List Char) (args : List (List Char)) : Option Instr :=
  match args with
  | [t] =>
    if op = "rd".toList then (regValue t).map (readInstr v)
    else if op = "tick".toList then
      match fieldValue 12 t with
      | some n => if n = 0#12 then none else some (.tick v n)
      | none => none
    else (readEvent v op [t]).map HostEvent.toInstr
  | [t, c, n] =>
    if op = "wr".toList ∧ c = [','] then
      match regValue t, fieldValue 8 n with
      | some r, some d => some (writeInstr v d r)
      | _, _ => none
    else (readEvent v op [t, c, n]).map HostEvent.toInstr
  | ts => (readEvent v op ts).map HostEvent.toInstr

/-- A pseudo-instruction with a base and a value (R100). -/
def readPseudo (op : List Char) (base : Addr) (t : List Char) : Option Pseudo :=
  if op = "enable".toList then (fieldValue 8 t).map (.enable base)
  else if op = "disable".toList then (fieldValue 8 t).map (.disable base)
  else if op = "clrflags".toList then (fieldValue 8 t).map (.clrFlags base)
  else if op = "loadt1".toList then (fieldValue 16 t).map (.loadT1 base)
  else if op = "loadt2".toList then (fieldValue 16 t).map (.loadT2 base)
  else none

/-- A bus cycle or a pseudo-instruction (R99, R100). -/
def readBusText (op : List Char) (args : List (List Char)) : Option AsmLine :=
  match args with
  | [t] =>
    match fieldValue 16 t with
    | some a =>
      if op = "rd".toList then some (.cycle (.busRd a))
      else if op = "ackt1".toList then some (.pseudo (.ackT1 a))
      else if op = "ackt2".toList then some (.pseudo (.ackT2 a))
      else none
    | none => none
  | [t, c, n] =>
    match fieldValue 16 t with
    | some a =>
      if c ≠ [','] then none
      else if op = "wr".toList then (fieldValue 8 n).map (fun d => .cycle (.busWr a d))
      else (readPseudo op a n).map .pseudo
    | none => none
  | _ => none

/-- A line of text (R99); none for text that is in no form of the notation. -/
def readLine (text : List Char) : Option AsmLine :=
  match tokens text [] with
  | [] => some .blank
  | op :: ts =>
    match viaName op, ts with
    | some v, ['.'] :: m :: args => (readCallText v m args).map .call
    | some _, _ => none
    | none, _ =>
      if op = "@host".toList then
        match ts with
        | i :: ['.'] :: m :: args =>
          match viaName i with
          | some v => (readEvent v m args).map .host
          | none => none
        | _ => none
      else readBusText op ts

/-- The inputs a line stands for: a bus line and each cycle of an expansion is one tick, with the tick's matrix. -/
def AsmLine.inputs (m : KeyMatrix) : AsmLine → List Input
  | .cycle i => [offered m (encode i)]
  | .call i => [offered m (encode i)]
  | .host e => [offered m (encode e.toInstr)]
  | .pseudo p => p.expand.map (fun i => offered m (encode i))
  | .blank => []

/-- The inputs of a text, line by line; none when a line cannot be read. -/
def assemble (m : KeyMatrix) : List (List Char) → Option (List Input)
  | [] => some []
  | t :: rest =>
    match readLine t, assemble m rest with
    | some l, some is => some (l.inputs m ++ is)
    | _, _ => none

end Sys2Proof.Machine
end

