-- ==== Sys2Proof/Tests/Slice0.lean ====
section
/-! SUPPORT. Tests on fixed values, with the results that spec/95_test_vectors.md gives (the vector is named at
each), and for each statement with hypotheses a state and operands that meet them together. -/

namespace Sys2Proof.Tests

open Sys2Proof Sys2Proof.Machine

/-! ### Helpers -/

/-- The reset state with the first instance replaced. -/
def on (x : Via) : State := { State.reset with via1 := x }

/-- The state an outcome answers with, if it is a next state. -/
def after (o : Host.Outcome State Fault Refusal) : Option State :=
  match o with
  | .next t => some t
  | .fault _ => none
  | .refused _ => none

/-- The first instance and the result after one operation from `on x`. -/
def call (i : Instr) (x : Via) : Option (Via × Result) :=
  (after (exec i (on x))).map fun t => (t.via1, t.result)

/-- The reset state with inputs offered. -/
def offering (q : List Input) : State := { State.reset with inputs := q }

/-- The refusal an outcome answers with, if it is one. -/
def refusal (o : Host.Outcome State Fault Refusal) : Option Refusal :=
  match o with
  | .next _ => none
  | .fault _ => none
  | .refused r => some r

/-- The relaxed mode of V-PROTO: capacity 2. -/
def relaxed : Setup := { Setup.defaults with lockstep := false, mailboxCapacity := 2 }

/-- A relaxed state with one tick not yet dispatched. -/
def lagging (q : List Input) : State :=
  { State.reset with setup := relaxed, ticks := 1, inputs := q }

/-- P4's matrix: row 2 is 0x10 and row 5 is 0x01. -/
def matrix : KeyMatrix :=
  ⟨((Vector.replicate 8 (0#8 : Byte)).set 2 0x10#8).set 5 0x01#8⟩

/-! ### Well-formed terms and setups -/

theorem test_wf_refuses_tick_zero : (Instr.tick .via1 0#12).wf = false := by decide
theorem test_wf_accepts_tick_bounds :
    (Instr.tick .via1 1#12).wf = true ∧ (Instr.tick .via2 4095#12).wf = true := by decide
theorem test_setup_refusals :
    ({ Setup.defaults with viaCount := 3 }).check = some .viaCount ∧
    ({ Setup.defaults with viaCount := 0 }).check = some .viaCount ∧
    ({ Setup.defaults with via2Block := 0#4 }).check = some .sameBlock ∧
    ({ Setup.defaults with mailboxCapacity := 0 }).check = some .mailboxCapacity ∧
    ({ Setup.defaults with kbdEnable := true, kbdReturnPort := .a }).check = some .kbdPorts ∧
    ({ Setup.defaults with kbdEnable := true, kbdVia := .via2, viaCount := 1 }).check = some .kbdVia ∧
    ({ Setup.defaults with kbdReturnPort := .a, kbdVia := .via2, viaCount := 1 }).check = none ∧
    Setup.defaults.check = none := by decide

/-! ### Decoding: words written out from R91 and R93 -/

theorem test_decode_bus :
    decode (.bus 0b1_1001000100000100_00000000#25) = .ok (.busRd 0x9104#16) ∧
    decode (.bus 0b0_1001000100011011_01000000#25) = .ok (.busWr 0x911B#16 0x40#8) := by decide
theorem test_decode_reads_port :
    decode (.call .via1 0b0001_0000_00000000#16) = .ok (.rdOrbIrb .via1) ∧
    decode (.call .via1 0b0001_0001_00000000#16) = .ok (.rdOraIra .via1) ∧
    decode (.call .via1 0b0001_0010_00000000#16) = .ok (.rdDdrb .via1) ∧
    decode (.call .via1 0b0001_0011_00000000#16) = .ok (.rdDdra .via1) ∧
    decode (.call .via2 0b0001_1111_00000000#16) = .ok (.rdOraIraNh .via2) := by decide
theorem test_decode_reads_timer :
    decode (.call .via1 0b0001_0100_00000000#16) = .ok (.rdT1cL .via1) ∧
    decode (.call .via1 0b0001_0101_00000000#16) = .ok (.rdT1cH .via1) ∧
    decode (.call .via1 0b0001_0110_00000000#16) = .ok (.rdT1lL .via1) ∧
    decode (.call .via1 0b0001_0111_00000000#16) = .ok (.rdT1lH .via1) ∧
    decode (.call .via1 0b0001_1000_00000000#16) = .ok (.rdT2cL .via1) ∧
    decode (.call .via1 0b0001_1001_00000000#16) = .ok (.rdT2cH .via1) := by decide
theorem test_decode_reads_control :
    decode (.call .via1 0b0001_1010_00000000#16) = .ok (.rdSr .via1) ∧
    decode (.call .via1 0b0001_1011_00000000#16) = .ok (.rdAcr .via1) ∧
    decode (.call .via1 0b0001_1100_00000000#16) = .ok (.rdPcr .via1) ∧
    decode (.call .via1 0b0001_1101_00000000#16) = .ok (.rdIfr .via1) ∧
    decode (.call .via1 0b0001_1110_00000000#16) = .ok (.rdIer .via1) := by decide
theorem test_decode_writes_port :
    decode (.call .via1 0b0000_0000_10100101#16) = .ok (.wrOrb .via1 0xA5#8) ∧
    decode (.call .via1 0b0000_0001_10100101#16) = .ok (.wrOra .via1 0xA5#8) ∧
    decode (.call .via1 0b0000_0010_10100101#16) = .ok (.wrDdrb .via1 0xA5#8) ∧
    decode (.call .via1 0b0000_0011_10100101#16) = .ok (.wrDdra .via1 0xA5#8) ∧
    decode (.call .via2 0b0000_1111_10100101#16) = .ok (.wrOraNh .via2 0xA5#8) := by decide
theorem test_decode_writes_timer :
    decode (.call .via1 0b0000_0100_10100101#16) = .ok (.wrT1cL .via1 0xA5#8) ∧
    decode (.call .via1 0b0000_0101_10100101#16) = .ok (.wrT1cH .via1 0xA5#8) ∧
    decode (.call .via1 0b0000_0110_10100101#16) = .ok (.wrT1lL .via1 0xA5#8) ∧
    decode (.call .via1 0b0000_0111_10100101#16) = .ok (.wrT1lH .via1 0xA5#8) ∧
    decode (.call .via1 0b0000_1000_10100101#16) = .ok (.wrT2cL .via1 0xA5#8) ∧
    decode (.call .via1 0b0000_1001_10100101#16) = .ok (.wrT2cH .via1 0xA5#8) := by decide
theorem test_decode_writes_control :
    decode (.call .via1 0b0000_1010_10100101#16) = .ok (.wrSr .via1 0xA5#8) ∧
    decode (.call .via1 0b0000_1011_10100101#16) = .ok (.wrAcr .via1 0xA5#8) ∧
    decode (.call .via1 0b0000_1100_10100101#16) = .ok (.wrPcr .via1 0xA5#8) ∧
    decode (.call .via1 0b0000_1101_10100101#16) = .ok (.wrIfr .via1 0xA5#8) ∧
    decode (.call .via1 0b0000_1110_10100101#16) = .ok (.wrIer .via1 0xA5#8) := by decide
theorem test_decode_tick_and_reset :
    decode (.call .via1 0b0010_100000000001#16) = .ok (.tick .via1 2049#12) ∧
    decode (.call .via1 0b0011_000000000000#16) = .ok (.reset .via1) := by decide
theorem test_decode_lines :
    decode (.call .via1 0b0100_00_00_0000000_1#16) = .ok (.setCa1 .via1 true) ∧
    decode (.call .via1 0b0100_00_01_0000000_0#16) = .ok (.setCa2 .via1 false) ∧
    decode (.call .via1 0b0100_00_10_0000000_1#16) = .ok (.setCb1 .via1 true) ∧
    decode (.call .via1 0b0100_00_11_0000000_0#16) = .ok (.setCb2 .via1 false) ∧
    decode (.call .via1 0b0110_00_00_00000000#16) = .ok (.getCa1 .via1) ∧
    decode (.call .via1 0b0110_00_01_00000000#16) = .ok (.getCa2 .via1) ∧
    decode (.call .via1 0b0110_00_10_00000000#16) = .ok (.getCb1 .via1) ∧
    decode (.call .via1 0b0110_00_11_00000000#16) = .ok (.getCb2 .via1) := by decide
theorem test_decode_ports :
    decode (.call .via1 0b0101_000_0_10100101#16) = .ok (.setPa .via1 0xA5#8) ∧
    decode (.call .via1 0b0101_000_1_10100101#16) = .ok (.setPb .via1 0xA5#8) ∧
    decode (.call .via1 0b0111_000_0_00000000#16) = .ok (.getPa .via1) ∧
    decode (.call .via1 0b0111_000_1_00000000#16) = .ok (.getPb .via1) := by decide
/-- V-LINE rows 13 to 17. -/
theorem test_decode_refuses :
    decode (.call .via1 0x8000#16) = .error .reservedClass ∧
    decode (.call .via1 0x4002#16) = .error .reservedBits ∧
    decode (.call .via1 0x2000#16) = .error .tickZero ∧
    decode (.call .via1 0x1001#16) = .error .reservedBits ∧
    decode (.call .via1 0x3100#16) = .error .reservedBits := by decide
theorem test_table_words :
    decodeTableWord 16 0x0512 = some (.wrT1cH .via1 0x12#8) ∧
    decodeTableWord 32 0x1910400 = some (.busRd 0x9104#16) ∧
    decodeTableWord 16 0x2000 = none ∧ decodeTableWord 32 0x2000000 = none := by decide
theorem test_fetch_word_runs :
    (after (step (State.reset.withFetchWord 16 0x4001))).map (·.via1.ca1) = some true ∧
    (after (step (State.reset.withFetchWord 32 0x0910141))).map (·.via1.ora) = some 0x41#8 := by decide

/-! ### Port registers (V-PORT) -/

/-- Row 1. -/
theorem test_rd_orb_irb :
    call (.rdOrbIrb .via1) { Via.zero with orb := 0xA5#8, ddrb := 0x0F#8, pb := 0xF0#8, ifr := 0x18#7 } =
      some ({ Via.zero with orb := 0xA5#8, ddrb := 0x0F#8, pb := 0xF0#8 }, .byte 0xF5#8) := by decide
/-- Row 2. -/
theorem test_rd_orb_irb_flags :
    call (.rdOrbIrb .via1) { Via.zero with ifr := 0x7F#7 } =
      some ({ Via.zero with ifr := 0x67#7 }, .byte 0x00#8) := by decide
/-- Rows 3 and 4. -/
theorem test_wr_orb :
    call (.wrOrb .via1 0xFF#8) { Via.zero with pb := 0x3C#8 } =
      some ({ Via.zero with orb := 0xFF#8, pb := 0x3C#8 }, .none) ∧
    call (.wrOrb .via1 0x81#8) { Via.zero with ddrb := 0xFF#8, pb := 0x3C#8, ifr := 0x18#7 } =
      some ({ Via.zero with ddrb := 0xFF#8, orb := 0x81#8, pb := 0x81#8 }, .none) := by decide
/-- Row 5. -/
theorem test_wr_ddrb :
    call (.wrDdrb .via1 0xF0#8) { Via.zero with orb := 0x3C#8, pb := 0x81#8, ifr := 0x18#7 } =
      some ({ Via.zero with orb := 0x3C#8, ddrb := 0xF0#8, pb := 0x31#8, ifr := 0x18#7 }, .none) := by
  decide
/-- Row 7. -/
theorem test_rd_ora_ira :
    call (.rdOraIra .via1) { Via.zero with pa := 0x3C#8, ddra := 0xFF#8, ifr := 0x03#7 } =
      some ({ Via.zero with pa := 0x3C#8, ddra := 0xFF#8 }, .byte 0x3C#8) := by decide
/-- Row 8. -/
theorem test_rd_ora_ira_nh :
    call (.rdOraIraNh .via1) { Via.zero with pa := 0x3C#8, ifr := 0x03#7 } =
      some ({ Via.zero with pa := 0x3C#8, ifr := 0x03#7 }, .byte 0x3C#8) := by decide
/-- Row 9. -/
theorem test_wr_ora :
    call (.wrOra .via1 0x12#8) { Via.zero with pa := 0x55#8, ifr := 0x7F#7 } =
      some ({ Via.zero with ora := 0x12#8, pa := 0x12#8, ifr := 0x7C#7 }, .none) := by decide
/-- Row 10. -/
theorem test_wr_ora_nh :
    call (.wrOraNh .via1 0x12#8) { Via.zero with pa := 0x55#8, ifr := 0x7F#7 } =
      some ({ Via.zero with ora := 0x12#8, pa := 0x12#8, ifr := 0x7F#7 }, .none) := by decide
/-- Row 11. -/
theorem test_wr_ddra :
    call (.wrDdra .via1 0xFF#8) { Via.zero with pa := 0x77#8 } =
      some ({ Via.zero with ddra := 0xFF#8 }, .none) := by decide
/-- Rows 12 and 13. -/
theorem test_rd_ddr :
    call (.rdDdra .via1) { Via.zero with ddra := 0xAA#8, ddrb := 0x0F#8 } =
      some ({ Via.zero with ddra := 0xAA#8, ddrb := 0x0F#8 }, .byte 0xAA#8) ∧
    call (.rdDdrb .via1) { Via.zero with ddra := 0xAA#8, ddrb := 0x0F#8 } =
      some ({ Via.zero with ddra := 0xAA#8, ddrb := 0x0F#8 }, .byte 0x0F#8) := by decide

/-! ### Timer registers (V-TMR) -/

/-- Row 1. -/
theorem test_wr_t1c_l :
    call (.wrT1cL .via1 0x34#8) { Via.zero with t1l := 0x1200#16, t1c := 0x0007#16 } =
      some ({ Via.zero with t1l := 0x1234#16, t1c := 0x0007#16 }, .none) := by decide
/-- Row 2. -/
theorem test_rd_t1c_l :
    call (.rdT1cL .via1) { Via.zero with t1c := 0x1234#16, ifr := 0x60#7 } =
      some ({ Via.zero with t1c := 0x1234#16, ifr := 0x20#7 }, .byte 0x34#8) := by decide
/-- Row 3. -/
theorem test_rd_t1c_h :
    call (.rdT1cH .via1) { Via.zero with t1c := 0x1234#16, ifr := 0x40#7 } =
      some ({ Via.zero with t1c := 0x1234#16, ifr := 0x40#7 }, .byte 0x12#8) := by decide
/-- Row 4. -/
theorem test_wr_t1c_h :
    call (.wrT1cH .via1 0x12#8) { Via.zero with t1l := 0x0034#16, ifr := 0x40#7, t1fired := true } =
      some ({ Via.zero with t1l := 0x1234#16, t1c := 0x1234#16 }, .none) := by decide
/-- Row 6. -/
theorem test_wr_t1l_l :
    call (.wrT1lL .via1 0x64#8) { Via.zero with t1l := 0x1200#16 } =
      some ({ Via.zero with t1l := 0x1264#16 }, .none) := by decide
/-- Rows 7 and 9. -/
theorem test_rd_t1l :
    call (.rdT1lL .via1) { Via.zero with t1l := 0x0164#16, ifr := 0x40#7 } =
      some ({ Via.zero with t1l := 0x0164#16, ifr := 0x40#7 }, .byte 0x64#8) ∧
    call (.rdT1lH .via1) { Via.zero with t1l := 0x0164#16, ifr := 0x40#7 } =
      some ({ Via.zero with t1l := 0x0164#16, ifr := 0x40#7 }, .byte 0x01#8) := by decide
/-- Row 8. -/
theorem test_wr_t1l_h :
    call (.wrT1lH .via1 0x01#8)
        { Via.zero with t1c := 0x0005#16, t1l := 0x0064#16, ifr := 0x40#7, t1fired := true } =
      some ({ Via.zero with t1c := 0x0005#16, t1l := 0x0164#16, t1fired := true }, .none) := by decide
/-- Row 10. -/
theorem test_wr_t2c_l :
    call (.wrT2cL .via1 0x10#8) { Via.zero with t2c := 0x1234#16 } =
      some ({ Via.zero with t2l := 0x10#8, t2c := 0x1234#16 }, .none) := by decide
/-- Rows 11 and 13. -/
theorem test_rd_t2c :
    call (.rdT2cL .via1) { Via.zero with t2c := 0xFFF7#16, ifr := 0x60#7 } =
      some ({ Via.zero with t2c := 0xFFF7#16, ifr := 0x40#7 }, .byte 0xF7#8) ∧
    call (.rdT2cH .via1) { Via.zero with t2c := 0x0210#16, ifr := 0x20#7 } =
      some ({ Via.zero with t2c := 0x0210#16, ifr := 0x20#7 }, .byte 0x02#8) := by decide
/-- Row 12. -/
theorem test_wr_t2c_h :
    call (.wrT2cH .via1 0x02#8) { Via.zero with t2l := 0x10#8, ifr := 0x60#7, t2fired := true } =
      some ({ Via.zero with t2l := 0x10#8, t2c := 0x0210#16, ifr := 0x40#7 }, .none) := by decide

/-! ### Control registers (V-CTL) -/

/-- Rows 1 and 2. -/
theorem test_sr :
    call (.wrSr .via1 0x5A#8) Via.zero = some ({ Via.zero with sr := 0x5A#8 }, .none) ∧
    call (.rdSr .via1) { Via.zero with sr := 0x5A#8 } =
      some ({ Via.zero with sr := 0x5A#8 }, .byte 0x5A#8) := by decide
/-- Rows 3 and 4. -/
theorem test_acr :
    call (.wrAcr .via1 0x40#8) Via.zero = some ({ Via.zero with acr := 0x40#8 }, .none) ∧
    call (.rdAcr .via1) { Via.zero with acr := 0x9F#8 } =
      some ({ Via.zero with acr := 0x9F#8 }, .byte 0x9F#8) := by decide
/-- Rows 5, 6 and 7. -/
theorem test_wr_pcr :
    call (.wrPcr .via1 0xED#8) { Via.zero with ca2 := true } =
      some ({ Via.zero with pcr := 0xED#8, cb2 := true }, .none) ∧
    call (.wrPcr .via1 0x0E#8) { Via.zero with ca2 := true, cb2 := true } =
      some ({ Via.zero with pcr := 0x0E#8, ca2 := true, cb2 := true }, .none) ∧
    call (.wrPcr .via1 0x8A#8) { Via.zero with ca2 := true } =
      some ({ Via.zero with pcr := 0x8A#8, ca2 := true }, .none) := by decide
/-- Row 8. -/
theorem test_rd_pcr :
    call (.rdPcr .via1) { Via.zero with pcr := 0xED#8 } =
      some ({ Via.zero with pcr := 0xED#8 }, .byte 0xED#8) := by decide
/-- Rows 9 and 10. -/
theorem test_wr_ifr :
    call (.wrIfr .via1 0x42#8) { Via.zero with ifr := 0x62#7 } =
      some ({ Via.zero with ifr := 0x20#7 }, .none) ∧
    call (.wrIfr .via1 0x80#8) { Via.zero with ifr := 0x7F#7 } =
      some ({ Via.zero with ifr := 0x7F#7 }, .none) := by decide
/-- Rows 12 and 13. -/
theorem test_rd_ifr :
    call (.rdIfr .via1) { Via.zero with ifr := 0x60#7, ier := 0x40#7 } =
      some ({ Via.zero with ifr := 0x60#7, ier := 0x40#7 }, .byte 0xE0#8) ∧
    call (.rdIfr .via1) { Via.zero with ifr := 0x60#7 } =
      some ({ Via.zero with ifr := 0x60#7 }, .byte 0x60#8) := by decide
/-- Rows 14 and 15. -/
theorem test_wr_ier :
    call (.wrIer .via1 0xC0#8) { Via.zero with ier := 0x02#7 } =
      some ({ Via.zero with ier := 0x42#7 }, .none) ∧
    call (.wrIer .via1 0x02#8) { Via.zero with ier := 0x42#7 } =
      some ({ Via.zero with ier := 0x40#7 }, .none) := by decide
/-- Row 17. -/
theorem test_rd_ier : call (.rdIer .via1) Via.zero = some (Via.zero, .byte 0x80#8) := by decide

/-! ### TICK (V-TICK) -/

/-- Timer-1 rows 2 to 9 and 12 to 14, as the counter, the fired flag and IFR[6]. -/
theorem test_tick_t1 :
    (([(0x0005, 0x0000, 0x00, false, 1), (0x0001, 0x0064, 0x40, false, 1),
       (0x0000, 0x0064, 0x40, false, 1), (0x0001, 0x0000, 0x00, false, 1),
       (0x0000, 0x0000, 0x00, false, 1), (0x0001, 0x0000, 0x00, true, 1),
       (0x0001, 0xFFFF, 0x40, false, 1), (0x0001, 0xFFFE, 0x40, true, 1),
       (0x0002, 0x0000, 0x00, false, 5), (0x0002, 0x000A, 0x40, false, 5),
       (0x0000, 0x0000, 0x00, true, 4095)] :
       List (Count × Count × Byte × Bool × Nat)).map fun (c, l, m, f, n) =>
      let y := (({ Via.zero with t1c := c, t1l := l, acr := m, t1fired := f } : Via).tick n).2
      (y.t1c, y.t1fired, y.ifr.getLsbD 6)) =
    [(0x0004, false, false), (0x0066, false, true), (0x0065, false, true), (0xFFFF, true, true),
     (0xFFFE, true, true), (0x0000, true, false), (0x0001, false, true), (0x0000, true, true),
     (0xFFFC, true, true), (0x0009, false, true), (0xF001, true, false)] := by decide
/-- Timer-2 rows 1 to 6, as the counter, the fired flag and IFR[5]. -/
theorem test_tick_t2 :
    (([(0x0002, 0x00, false, 1), (0x0001, 0x00, false, 1), (0x0001, 0x40, false, 1),
       (0x0001, 0x20, false, 1), (0x0000, 0x20, false, 100), (0x0000, 0x00, true, 1)] :
       List (Count × Byte × Bool × Nat)).map fun (c, m, f, n) =>
      let y := (({ Via.zero with t2c := c, acr := m, t2fired := f } : Via).tick n).2
      (y.t2c, y.t2fired, y.ifr.getLsbD 5)) =
    [(0x0001, false, false), (0xFFFF, true, true), (0xFFFF, true, true), (0x0001, false, false),
     (0x0000, false, false), (0xFFFF, true, false)] := by decide
/-- The CA1 rows 1 to 6, as IFR[1] and CA1_PREV. -/
theorem test_tick_ca1 :
    (([(false, true, 0x01), (false, true, 0x00), (true, false, 0x00), (true, false, 0x01),
       (false, false, 0x00), (true, true, 0x01)] : List (Bool × Bool × Byte)).map fun (p, l, m) =>
      let y := (({ Via.zero with ca1Prev := p, ca1 := l, pcr := m } : Via).tick 1).2
      (y.ifr.getLsbD 1, y.ca1Prev)) =
    [(true, true), (false, true), (true, false), (false, false), (false, false), (false, true)] := by
  decide
/-- The CB1 rows 1 to 3, as IFR[4] and CB1_PREV. -/
theorem test_tick_cb1 :
    (([(false, true, 0x10), (true, false, 0x00), (true, false, 0x10)] :
       List (Bool × Bool × Byte)).map fun (p, l, m) =>
      let y := (({ Via.zero with cb1Prev := p, cb1 := l, pcr := m } : Via).tick 1).2
      (y.ifr.getLsbD 4, y.cb1Prev)) =
    [(true, true), (true, false), (false, false)] := by decide
/-- W7: the value returned, and 0x40 enabled at the stale expiry after reset. -/
theorem test_tick_returns :
    (([(0x00, 0x7F), (0x40, 0x00), (0x40, 0x40), (0x40, 0x20), (0x12, 0x10), (0x7F, 0x01)] :
       List (Flags × Flags)).map fun (f, e) =>
      (({ Via.zero with t1c := 0x1000#16, t2c := 0x1000#16, ifr := f, ier := e } : Via).tick 1).1) =
    [false, false, true, false, true, true] ∧
    (call (.tick .via1 1#12) { Via.zero with ier := 0x40#7 }).map (·.2) = some (.bit true) := by
  decide

/-! ### Lines, ports and RESET (V-LINE) -/

/-- Rows 1 to 4. -/
theorem test_set_line :
    call (.setCa1 .via1 true) Via.zero = some ({ Via.zero with ca1 := true }, .none) ∧
    call (.setCa2 .via1 true) Via.zero = some ({ Via.zero with ca2 := true }, .none) ∧
    call (.setCb1 .via1 false) { Via.zero with cb1 := true } = some (Via.zero, .none) ∧
    call (.setCb2 .via1 true) Via.zero = some ({ Via.zero with cb2 := true }, .none) := by decide
/-- Rows 5 and 6. -/
theorem test_set_port :
    call (.setPa .via1 0x3C#8) Via.zero = some ({ Via.zero with pa := 0x3C#8 }, .none) ∧
    call (.setPb .via1 0xF0#8) { Via.zero with ddrb := 0x0F#8, orb := 0xA5#8 } =
      some ({ Via.zero with ddrb := 0x0F#8, orb := 0xA5#8, pb := 0xF0#8 }, .none) := by decide
/-- Rows 7 to 9. -/
theorem test_get_line :
    (call (.getCa1 .via1) { Via.zero with ca1 := true }).map (·.2) = some (.bit true) ∧
    (call (.getCa2 .via1) { Via.zero with ca1 := true }).map (·.2) = some (.bit false) ∧
    (call (.getCb1 .via1) { Via.zero with cb1 := true }).map (·.2) = some (.bit true) ∧
    (call (.getCb2 .via1) { Via.zero with cb2 := true }).map (·.2) = some (.bit true) := by decide
/-- Rows 10 and 11. -/
theorem test_get_port :
    (call (.getPa .via1) { Via.zero with pa := 0x3C#8 }).map (·.2) = some (.byte 0x3C#8) ∧
    (call (.getPb .via1) { Via.zero with pb := 0xF0#8, ddrb := 0x0F#8, orb := 0xA5#8 }).map (·.2) =
      some (.byte 0xF0#8) := by decide
/-- Row 12. -/
theorem test_reset :
    (call (.reset .via1) { Via.zero with ora := 1#8, t1c := 5#16, ier := 0x7F#7, ca2Prev := true }).map
      (·.1) = some Via.zero := by decide

/-! ### Bus cycles and ticks (V-BUS, V-PROTO, W8, P4) -/

/-- Rows 1, 2 and 3: RAM. -/
theorem test_bus_ram :
    (after (exec (.busWr 0x0200#16 0x77#8) State.reset)).map (fun t => (t.mem.cells, t.mbox)) =
      some ([(0x0200, 0x77#8)], []) ∧
    (after (exec (.busRd 0x0200#16) { State.reset with mem := ⟨[(0x0200, 0x77#8)]⟩ })).map (·.result) =
      some (.byte 0x77#8) := by decide
/-- W1: ROM. -/
theorem test_bus_rom :
    (after (exec (.busWr 0xE000#16 0x55#8) { State.reset with mem := ⟨[(0xE000, 0xEA#8)]⟩ })).map
      (fun t => (t.mem.cells, t.mbox)) = some ([(0xE000, 0xEA#8)], []) := by decide
/-- Rows 6 and 11: a mapped write posts, an unmapped one only stores. -/
theorem test_bus_write_mapped :
    (after (exec (.busWr 0x9105#16 0x0A#8) State.reset)).map (fun t => (t.mem.cells, t.mbox, t.via1)) =
      some ([(0x9105, 0x0A#8)], [⟨0x9105#16, 0x0A#8⟩], Via.zero) ∧
    (after (exec (.busWr 0x9120#16 0xAA#8) State.reset)).map (fun t => (t.mem.cells, t.mbox)) =
      some ([(0x9120, 0xAA#8)], []) := by decide
/-- Rows 8, 9 and 12: reads of VIA-1, VIA-2 and an unmapped address. -/
theorem test_bus_read_mapped :
    (after (exec (.busRd 0x9104#16) (on { Via.zero with t1c := 0xABCD#16, ifr := 0x40#7 }))).map
      (fun t => (t.result, t.via1.ifr)) = some (.byte 0xCD#8, 0#7) ∧
    (after (exec (.busRd 0x9114#16)
        { State.reset with via2 := { Via.zero with t1c := 0x0102#16, ifr := 0x40#7 } })).map
      (fun t => (t.result, t.via2.ifr)) = some (.byte 0x02#8, 0#7) ∧
    (after (exec (.busRd 0x9120#16) { State.reset with mem := ⟨[(0x9120, 0xAA#8)]⟩ })).map (·.result) =
      some (.byte 0xFF#8) := by decide
/-- W8, from its bus word. -/
theorem test_step_end_to_end :
    (after (step (offering [.bus 0x0910141#25 KeyMatrix.zero]))).map
      (fun t => (t.presented 0x9101#16, t.irq, t.mbox, t.ticks)) = some (0x41#8, false, [], 1) ∧
    (after (step (offering [.bus 0x0910141#25 KeyMatrix.zero]))).map (·.via1) =
      some { Via.zero with
        ora := 0x41#8, pa := 0x41#8, t1c := 0xFFFE#16, t2c := 0xFFFE#16, t1fired := true,
        t2fired := true, ifr := 0x60#7 } ∧
    (after (step (offering [.bus 0x0910141#25 KeyMatrix.zero]))).map (·.via2) =
      some { Via.zero with
        t1c := 0xFFFE#16, t2c := 0xFFFE#16, t1fired := true, t2fired := true, ifr := 0x60#7 } := by
  decide
/-- V-PROTO lock-step rows 1 and 3. -/
theorem test_step_irq :
    (after (step (offering [.bus 0x0910EC0#25 KeyMatrix.zero]))).map
      (fun t => (t.via1.ier, t.via1.ifr, t.irq)) = some (0x40#7, 0x60#7, true) ∧
    (after (step (offering [.bus 0x0910D7F#25 KeyMatrix.zero]))).map
      (fun t => (t.via1.ifr, t.irq)) = some (0x60#7, false) := by decide
/-- V-PROTO relaxed steps 3 and 4: the overflow discards the head; the drain applies what is left. -/
theorem test_step_relaxed :
    (after (step { State.reset with
        setup := relaxed, ticks := 2, mbox := [⟨0x9106#16, 0x11#8⟩, ⟨0x9106#16, 0x22#8⟩],
        inputs := [.bus 0x0910733#25 KeyMatrix.zero] })).map (fun t => (t.mbox, t.ticks, t.dispatched)) =
      some ([⟨0x9106#16, 0x22#8⟩, ⟨0x9107#16, 0x33#8⟩], 3, 0) ∧
    (after (step { State.reset with
        setup := relaxed, ticks := 3, mbox := [⟨0x9106#16, 0x22#8⟩, ⟨0x9107#16, 0x33#8⟩],
        inputs := [.dispatch KeyMatrix.zero] })).map
      (fun t => (t.via1.t1l, t.via1.t1c, t.via1.ifr, t.dispatched)) =
      some (0x3322#16, 0xFFFE#16, 0x60#7, 1) ∧
    (after (step { State.reset with
        setup := { relaxed with tickAdvance := .elapsed }, ticks := 3,
        inputs := [.dispatch KeyMatrix.zero] })).map (fun t => (t.via1.t1c, t.dispatched)) =
      some (0xFFFC#16, 3) := by decide
/-- P4, tick 4: rows 2 and 5 selected. -/
theorem test_step_keyboard :
    (after (step { State.reset with
        setup := { Setup.defaults with kbdEnable := true }
        inputs := [.bus 0x0910124#25 matrix] })).map (fun t => (t.via1.pa, t.via1.pb)) =
      some (0x24#8, 0x11#8) := by decide
/-- The setup and the input refusals (R97, R241, R242, R252, R263). -/
theorem test_step_refuses :
    refusal (step (offering [.call .via1 0x8000#16])) = some (.reservedWord .reservedClass) ∧
    refusal (step (offering [.dispatch KeyMatrix.zero])) = some .dispatchNotDue ∧
    refusal (step (offering [.overlap 0x1910400#25 KeyMatrix.zero])) = some .noOverlap ∧
    refusal (step (lagging [.overlap 0x1020000#25 KeyMatrix.zero])) = some .noOverlap ∧
    refusal (step (offering [.lateCycle])) = some .missedBudget ∧
    refusal (step { State.reset with setup := { Setup.defaults with viaCount := 0 } }) =
      some (.setupFailure .viaCount) := by decide

/-! ### Notation (R99, R100) -/

theorem test_assembly :
    readLine "WR 0x9104, 0x05 ; latch".toList = some (.cycle (.busWr 0x9104#16 5#8)) ∧
    readLine "via1.wr T1C_H, 0x12".toList = some (.call (.wrT1cH .via1 0x12#8)) ∧
    readLine "via2.RD RS15".toList = some (.call (.rdOraIraNh .via2)) ∧
    readLine "@host via2.SETLINE CB1, 1".toList = some (.host (.setLine .via2 .cb1 true)) ∧
    readLine "via1.TICK 0".toList = none := by decide
theorem test_pseudo :
    readLine "LOADT1 0x9110, 1000".toList = some (.pseudo (.loadT1 0x9110#16 1000#16)) ∧
    (Pseudo.loadT1 0x9110#16 1000#16).expand = [.busWr 0x9114#16 0xE8#8, .busWr 0x9115#16 0x03#8] ∧
    (Pseudo.loadT2 0x9100#16 0x0210#16).expand = [.busWr 0x9108#16 0x10#8, .busWr 0x9109#16 0x02#8] ∧
    (Pseudo.enable 0x9100#16 0x40#8).expand = [.busWr 0x910E#16 0xC0#8] ∧
    (Pseudo.disable 0x9100#16 0xC0#8).expand = [.busWr 0x910E#16 0x40#8] ∧
    (Pseudo.clrFlags 0x9100#16 0xFF#8).expand = [.busWr 0x910D#16 0x7F#8] ∧
    (Pseudo.ackT1 0x9100#16).expand = [.busRd 0x9104#16] ∧
    (Pseudo.ackT2 0x9100#16).expand = [.busRd 0x9108#16] := by decide

/-! ### Witnesses: what each statement with hypotheses is about -/

theorem witness_DecodeOfEncodeIsTheOperation :
    (Instr.tick .via1 1#12).wf = true ∧ (Instr.tick .via1 4095#12).wf = true := by decide

theorem witness_DecoderAcceptsExactlyTheTableRows :
    decodeViaop .via1 0x2001#16 = .ok (.tick .via1 1#12) ∧
    (∃ r ∈ viaopTable, r.holds 0x2001#16 = true ∧ r.mnemonic = "TICK" ∧
      (0x2001#16 : OpWord).extractLsb' 0 12 ≠ 0#12) ∧
    (∃ r ∈ viaopTable, r.holds 0x0512#16 = true ∧ r.mnemonic ≠ "TICK") ∧
    (∃ r ∈ busTable, r.holds 0x1FFFFFF#25 = true) := by
  refine ⟨by decide, ⟨⟨"TICK", 0x2000#16, 0xF000#16⟩, by decide, by decide, by decide, by decide⟩,
    ⟨⟨"WR_T1C_H", 0x0500#16, 0xFF00#16⟩, by decide, by decide, by decide⟩,
    ⟨⟨"BUS_RD", 0x1000000#25, 0x1000000#25⟩, by decide, by decide⟩⟩

/-- One word for each clause, and a step offered one. -/
theorem witness_ReservedWordsAreRefused :
    8 ≤ ((0x8000#16 : OpWord).extractLsb' 12 4).toNat ∧
    8 ≤ ((0xFFFF#16 : OpWord).extractLsb' 12 4).toNat ∧
    (((0x1001#16 : OpWord).extractLsb' 12 4).toNat = 1 ∧
      (0x1001#16 : OpWord).extractLsb' 0 8 ≠ 0#8) ∧
    (((0x2000#16 : OpWord).extractLsb' 12 4).toNat = 2 ∧
      (0x2000#16 : OpWord).extractLsb' 0 12 = 0#12) ∧
    (((0x3800#16 : OpWord).extractLsb' 12 4).toNat = 3 ∧
      (0x3800#16 : OpWord).extractLsb' 0 12 ≠ 0#12) ∧
    (((0x4400#16 : OpWord).extractLsb' 12 4).toNat = 4 ∧
      (0x4400#16 : OpWord).extractLsb' 10 2 ≠ 0#2) ∧
    (((0x4002#16 : OpWord).extractLsb' 12 4).toNat = 4 ∧
      (0x4002#16 : OpWord).extractLsb' 1 7 ≠ 0#7) ∧
    (((0x5200#16 : OpWord).extractLsb' 12 4).toNat = 5 ∧
      (0x5200#16 : OpWord).extractLsb' 9 3 ≠ 0#3) ∧
    (((0x6001#16 : OpWord).extractLsb' 12 4).toNat = 6 ∧
      (0x6001#16 : OpWord).extractLsb' 0 8 ≠ 0#8) ∧
    (((0x7200#16 : OpWord).extractLsb' 12 4).toNat = 7 ∧
      (0x7200#16 : OpWord).extractLsb' 9 3 ≠ 0#3) ∧
    (offering [.call .via1 0x2000#16]).setup.check = none ∧
    decodeViaop .via1 0x2000#16 = .error .tickZero := by decide

/-- The three outcomes of ioDecode, at block 0, block 1, block 2 and, with one instance, block 1. -/
theorem witness_IoDecodeSelectsByBlock :
    (0x910F#16 : Addr).extractLsb' 4 4 = Setup.defaults.via1Block ∧
    ((0x9110#16 : Addr).extractLsb' 4 4 ≠ Setup.defaults.via1Block ∧
      (0x9110#16 : Addr).extractLsb' 4 4 = Setup.defaults.via2Block ∧ Setup.defaults.viaCount = 2) ∧
    ((0x9120#16 : Addr).extractLsb' 4 4 ≠ Setup.defaults.via1Block ∧
      ¬((0x9120#16 : Addr).extractLsb' 4 4 = Setup.defaults.via2Block ∧ Setup.defaults.viaCount = 2)) ∧
    ioDecode { Setup.defaults with viaCount := 1 } 0x9110#16 = none ∧
    (0x0004#16 : Addr).extractLsb' 0 8 = (0x9104#16 : Addr).extractLsb' 0 8 := by decide

theorem witness_PlainReadReturnsTheStoredByte :
    classify State.reset.pt 0x0000#16 = .ram ∧ classify State.reset.pt 0xFFFF#16 = .ram ∧
    classify State.reset.pt 0xE000#16 = .rom ∧ classify State.reset.pt 0xE0FF#16 = .rom := by decide

theorem witness_UnmappedReadReturnsThePlaceholder :
    classify State.reset.pt 0x9120#16 = .mappedIO ∧ ioDecode State.reset.setup 0x9120#16 = none := by
  decide

theorem witness_MappedReadIsReadReg :
    (classify State.reset.pt 0x9100#16 = .mappedIO ∧
      ioDecode State.reset.setup 0x9100#16 = some (.via1, .orbIrb)) ∧
    (classify State.reset.pt 0x911F#16 = .mappedIO ∧
      ioDecode State.reset.setup 0x911F#16 = some (.via2, .oraIraNh)) := by decide

theorem witness_RamWriteStoresTheByte :
    State.reset.mem.wf = true ∧ classify State.reset.pt 0xFFFF#16 = .ram := by decide

theorem witness_RomWriteChangesNothing : classify State.reset.pt 0xE0FF#16 = .rom := by decide

/-- A mailbox that is not full, and one that is. -/
theorem witness_MappedWriteStoresAndPosts :
    State.reset.mem.wf = true ∧ classify State.reset.pt 0x911F#16 = .mappedIO ∧
    (ioDecode State.reset.setup 0x911F#16).isSome = true ∧
    State.reset.mbox.length ≠ State.reset.setup.mailboxCapacity ∧
    ({ State.reset with mbox := [⟨0x9100#16, 1#8⟩] } : State).mbox.length =
      State.reset.setup.mailboxCapacity := by decide

theorem witness_UnmappedWriteOnlyStores :
    State.reset.mem.wf = true ∧ classify State.reset.pt 0x91FF#16 = .mappedIO ∧
    ioDecode State.reset.setup 0x91FF#16 = none := by decide

theorem witness_EveryImageIsOneCanonicalMemory :
    Memory.wf ⟨[(0, 1#8), (65535, 0xFF#8)]⟩ = true ∧
    (∀ a, Memory.read ⟨[(0, 1#8), (65535, 0xFF#8)]⟩ a = Memory.read ⟨[(0, 1#8), (65535, 0xFF#8)]⟩ a) :=
  ⟨by decide, fun _ => rfl⟩

/-- PCR fields 0b110, 0b111 and one that forces nothing, for each line. -/
theorem witness_PcrWriteForcesManualLevels :
    (0xCC#8 : Byte).extractLsb' 1 3 = 0b110#3 ∧ (0xCC#8 : Byte).extractLsb' 5 3 = 0b110#3 ∧
    (0xEE#8 : Byte).extractLsb' 1 3 = 0b111#3 ∧ (0xEE#8 : Byte).extractLsb' 5 3 = 0b111#3 ∧
    (0xAB#8 : Byte).extractLsb' 1 3 = 0b101#3 ∧ (0xAB#8 : Byte).extractLsb' 5 3 = 0b101#3 := by decide

/-- Timer 1: d = 1; d = 0 in free-run mode; d = 0 in one-shot mode, not fired and fired. -/
theorem witness_TickStepsTimer1 :
    (Instr.tick .via1 1#12).wf = true ∧
    (∀ x : Via, x = { Via.zero with t1c := 2#16 } → 0 < (x.t1c.toNat : Int) - 1) ∧
    (∀ x : Via, x = { Via.zero with t1c := 1#16, acr := 0x40#8 } →
      (x.t1c.toNat : Int) - 1 ≤ 0 ∧ x.acr.getLsbD 6 = true) ∧
    (∀ x : Via, x = { Via.zero with t1c := 1#16 } →
      (x.t1c.toNat : Int) - 1 ≤ 0 ∧ x.acr.getLsbD 6 = false ∧ x.t1fired = false) ∧
    (∀ x : Via, x = { Via.zero with t1c := 1#16, t1fired := true } →
      (x.t1c.toNat : Int) - 1 ≤ 0 ∧ x.acr.getLsbD 6 = false ∧ x.t1fired = true) := by
  refine ⟨by decide, ?_, ?_, ?_, ?_⟩ <;> rintro x rfl <;> decide

/-- Timer 2: held; d = 1; d = 0, not fired and fired. -/
theorem witness_TickStepsTimer2 :
    (Instr.tick .via1 1#12).wf = true ∧
    (∀ x : Via, x = { Via.zero with acr := 0x20#8 } → x.acr.getLsbD 5 = true) ∧
    (∀ x : Via, x = { Via.zero with t2c := 2#16 } →
      x.acr.getLsbD 5 = false ∧ 0 < (x.t2c.toNat : Int) - 1) ∧
    (∀ x : Via, x = { Via.zero with t2c := 1#16 } →
      x.acr.getLsbD 5 = false ∧ (x.t2c.toNat : Int) - 1 ≤ 0 ∧ x.t2fired = false) ∧
    (∀ x : Via, x = { Via.zero with t2c := 1#16, t2fired := true } →
      x.acr.getLsbD 5 = false ∧ (x.t2c.toNat : Int) - 1 ≤ 0 ∧ x.t2fired = true) := by
  refine ⟨by decide, ?_, ?_, ?_, ?_⟩ <;> rintro x rfl <;> decide

/-- An active edge, an edge of the other polarity and no edge, on each line. -/
theorem witness_TickDetectsEdges :
    (Instr.tick .via1 4095#12).wf = true ∧
    (∀ x : Via, x = { Via.zero with ca1 := true, cb1 := true, pcr := 0x11#8 } →
      (x.ca1 ≠ x.ca1Prev ∧ x.ca1 = x.pcr.getLsbD 0) ∧ x.cb1 ≠ x.cb1Prev ∧ x.cb1 = x.pcr.getLsbD 4) ∧
    (∀ x : Via, x = { Via.zero with ca1 := true, cb1 := true } →
      ¬(x.ca1 ≠ x.ca1Prev ∧ x.ca1 = x.pcr.getLsbD 0) ∧
      ¬(x.cb1 ≠ x.cb1Prev ∧ x.cb1 = x.pcr.getLsbD 4)) := by
  refine ⟨by decide, ?_, ?_⟩ <;> rintro x rfl <;> decide

theorem witness_TickReturnsTheSummary :
    (Instr.tick .via1 1#12).wf = true ∧ (Instr.tick .via2 4095#12).wf = true := by decide

/-- The three cases of the free-run period, the first at T1L = 0 acknowledged and at T1L = 0xFFFD not. -/
theorem witness_FreeRunPeriodIsLatchPlusTwo :
    (∀ x : Via, x = { Via.zero with acr := 0x40#8, t1c := 2#16 } →
      x.acr.getLsbD 6 = true ∧ x.t1l.toNat ≤ 0xFFFD ∧ x.t1c.toNat = x.t1l.toNat + 2) ∧
    (∀ x : Via, x = { Via.zero with
        acr := 0x40#8, t1l := 0xFFFD#16, t1c := 0xFFFF#16, ifr := flagT1 } →
      x.acr.getLsbD 6 = true ∧ x.t1l.toNat ≤ 0xFFFD ∧ x.t1c.toNat = x.t1l.toNat + 2) ∧
    (∀ x : Via, x = { Via.zero with acr := 0x40#8, t1l := 0xFFFE#16 } →
      x.t1l = 0xFFFE#16 ∧ x.t1c = 0x0000#16) ∧
    (∀ x : Via, x = { Via.zero with acr := 0x40#8, t1l := 0xFFFF#16, t1c := 1#16 } →
      x.t1l = 0xFFFF#16 ∧ x.t1c = 0x0001#16) := by
  refine ⟨?_, ?_, ?_, ?_⟩ <;> rintro x rfl <;> decide

/-- A load of 1 and of 0xFFFF, a load of 0, and a fired timer, for both timers. -/
theorem witness_OneShotTimersFireOnce :
    (∀ x : Via, x = { Via.zero with t1c := 1#16, t2c := 0xFFFF#16 } →
      x.acr.getLsbD 6 = false ∧ x.t1fired = false ∧ x.ifr.getLsbD 6 = false ∧ 1 ≤ x.t1c.toNat ∧
      x.acr.getLsbD 5 = false ∧ x.t2fired = false ∧ x.ifr.getLsbD 5 = false ∧ 1 ≤ x.t2c.toNat) ∧
    (∀ x : Via, x = Via.zero → x.t1fired = false ∧ x.t1c = 0#16 ∧ x.t2fired = false ∧ x.t2c = 0#16) ∧
    (∀ x : Via, x = { Via.zero with t1fired := true, t2fired := true } →
      x.acr.getLsbD 6 = false ∧ x.t1fired = true ∧ x.acr.getLsbD 5 = false ∧ x.t2fired = true) := by
  refine ⟨?_, ?_, ?_⟩ <;> rintro x rfl <;> decide

theorem witness_PortAPassesThrough :
    ∃ s1 s2, exec (.wrDdra .via1 0xFF#8) State.reset = .next s1 ∧
      exec (.setPa .via1 0x5A#8) s1 = .next s2 := ⟨_, _, rfl, rfl⟩

theorem witness_CallsAreConfinedToTheirInstance :
    encode (.wrPcr .via2 0xED#8) = .call .via2 0x0CED#16 ∧
    (∃ t, exec (.wrPcr .via2 0xED#8) State.reset = .next t) ∧
    State.reset.via .via2 = (on { Via.zero with pa := 1#8 }).via .via2 :=
  ⟨by decide, ⟨_, rfl⟩, rfl⟩

/-- An operation that changes IER, two that clear a flag, one of them over the bus, and one that sets a flag. -/
theorem witness_WhatChangesTheFlagsAndEnables :
    (∃ t, exec (.wrIer .via1 0xC0#8) State.reset = .next t ∧ (t.via .via1).ier ≠ (State.reset.via .via1).ier) ∧
    (∃ t, exec (.wrIfr .via1 0x40#8) (on { Via.zero with ifr := 0x40#7 }) = .next t ∧
      ((on { Via.zero with ifr := 0x40#7 }).via .via1).ifr &&& ~~~(t.via .via1).ifr ≠ 0#7) ∧
    (∃ t, exec (.busRd 0x9104#16) (on { Via.zero with ifr := 0x40#7 }) = .next t ∧
      ((on { Via.zero with ifr := 0x40#7 }).via .via1).ifr &&& ~~~(t.via .via1).ifr ≠ 0#7) ∧
    (∃ t, exec (.tick .via1 1#12) State.reset = .next t ∧
      (t.via .via1).ifr &&& ~~~(State.reset.via .via1).ifr ≠ 0#7) :=
  ⟨⟨_, rfl, by decide⟩, ⟨_, rfl, by decide⟩, ⟨_, rfl, by decide⟩, ⟨_, rfl, by decide⟩⟩

theorem witness_WhatChangesTheTimers :
    (∃ t, exec (.wrT1cH .via1 1#8) State.reset = .next t ∧
      (t.via .via1).t1c ≠ (State.reset.via .via1).t1c ∧ (t.via .via1).t1l ≠ (State.reset.via .via1).t1l) ∧
    (∃ t, exec (.wrT2cH .via1 1#8) State.reset = .next t ∧
      (t.via .via1).t2c ≠ (State.reset.via .via1).t2c) ∧
    (∃ t, exec (.wrT2cL .via1 1#8) State.reset = .next t ∧
      (t.via .via1).t2l ≠ (State.reset.via .via1).t2l) :=
  ⟨⟨_, rfl, by decide, by decide⟩, ⟨_, rfl, by decide⟩, ⟨_, rfl, by decide⟩⟩

/-- An accepted setup with a call, and with a bus cycle in each mode. -/
theorem witness_StepRunsTheDecodedOperation :
    (offering [.call .via1 0x4001#16]).setup.check = none ∧
    decode (.call .via1 0x4001#16) = .ok (.setCa1 .via1 true) ∧
    (offering [.bus 0x0910141#25 matrix]).setup.check = none ∧
    decode (.bus 0x0910141#25) = .ok (.busWr 0x9101#16 0x41#8) ∧
    (offering []).setup.lockstep = true ∧ (lagging []).setup.lockstep = false ∧
    (lagging []).setup.check = none := by decide

/-- A tick with host events before its cycle. -/
def someTick : TickInput :=
  { host := [.setLine .via1 .ca1 true, .reset .via2], addr := 0x9101#16, isRead := false,
    data := 0x41#8, matrix := matrix }

theorem witness_StepsOfATickAreTickStep :
    (offering someTick.inputs).setup.check = none ∧ (offering someTick.inputs).setup.lockstep = true ∧
    (offering someTick.inputs).inputs = someTick.inputs ++ [] ∧
    (offering (someTick.inputs ++ someTick.inputs)).inputs =
      [someTick, someTick].flatMap TickInput.inputs ++ [] := by
  decide

theorem witness_DrainAppliesOldestFirst :
    State.reset.mbox = [] ∧
    ({ State.reset with mbox := [⟨0x9106#16, 1#8⟩] } : State).mbox = ⟨0x9106#16, 1#8⟩ :: [] ∧
    ioDecode State.reset.setup 0x9106#16 = some (.via1, .t1lL) ∧
    ioDecode State.reset.setup 0x9120#16 = none := by decide

theorem reset_inv : State.reset.Inv :=
  ⟨by decide, by decide, by decide, by simp [State.reset, State.launch], fun _ => rfl, by decide,
    ⟨by decide, rfl, rfl⟩, ⟨by decide, rfl, rfl⟩⟩

/-- Offering inputs keeps the invariant. -/
theorem offering_inv (q : List Input) : (offering q).Inv :=
  ⟨reset_inv.memory, reset_inv.setup, reset_inv.fits, reset_inv.mapped, reset_inv.lockstep,
    reset_inv.caughtUp, reset_inv.quiet1, reset_inv.quiet2⟩

/-- A bus word offered in the reset state, with the keyboard coupling on or off. -/
def keyed (b : Bool) (w : BusWord) : State :=
  { offering [.bus w matrix] with setup := { State.reset.setup with kbdEnable := b } }

theorem keyed_inv (b : Bool) (w : BusWord) : (keyed b w).Inv :=
  ⟨reset_inv.memory, by cases b <;> rfl, reset_inv.fits, reset_inv.mapped, reset_inv.lockstep,
    reset_inv.caughtUp, reset_inv.quiet1, reset_inv.quiet2⟩

theorem witness_MappedWriteLandsBeforeItsTick (b : Bool) :
    (keyed b 0x0910141#25).Inv ∧ (keyed b 0x0910141#25).setup.lockstep = true ∧
    (keyed false 0x0910141#25).setup.kbdEnable = false ∧
    (keyed b 0x0910141#25).inputs = .bus 0x0910141#25 matrix :: [] ∧
    decodeBus 0x0910141#25 = .busWr 0x9101#16 0x41#8 ∧
    classify (keyed b 0x0910141#25).pt 0x9101#16 = .mappedIO ∧
    ioDecode (keyed b 0x0910141#25).setup 0x9101#16 = some (.via1, .oraIra) := by
  refine ⟨keyed_inv _ _, ?_⟩
  cases b <;> decide

theorem witness_MappedReadSeesTheTickBefore (b : Bool) :
    (keyed b 0x1910400#25).Inv ∧ (keyed b 0x1910400#25).setup.lockstep = true ∧
    (keyed false 0x1910400#25).setup.kbdEnable = false ∧
    (keyed b 0x1910400#25).inputs = .bus 0x1910400#25 matrix :: [] ∧
    decodeBus 0x1910400#25 = .busRd 0x9104#16 ∧
    classify (keyed b 0x1910400#25).pt 0x9104#16 = .mappedIO ∧
    ioDecode (keyed b 0x1910400#25).setup 0x9104#16 = some (.via1, .t1cL) := by
  refine ⟨keyed_inv _ _, ?_⟩
  cases b <;> decide

/-- The kinds of step the statement about IRQ names. -/
theorem witness_IrqIsTheLevelOfEnabledFlags :
    (∃ t, (offering [.bus 0x0910EC0#25 matrix]).setup.lockstep = true ∧
      step (offering [.bus 0x0910EC0#25 matrix]) = .next t ∧ t.irq = true) ∧
    (∃ t, (lagging [.dispatch matrix]).inputs = .dispatch matrix :: [] ∧
      step (lagging [.dispatch matrix]) = .next t) ∧
    (∃ t, step (offering [.call .via1 0x0EC0#16]) = .next t) ∧
    (∃ t, (lagging [.bus 0x0910EC0#25 matrix]).setup.lockstep = false ∧
      step (lagging [.bus 0x0910EC0#25 matrix]) = .next t) :=
  ⟨⟨_, by decide, rfl, by decide⟩, ⟨_, rfl, rfl⟩, ⟨_, rfl⟩, ⟨_, by decide, rfl⟩⟩

theorem witness_KeyboardPushReturnsTheSelectedRows :
    ({ State.reset with setup := { Setup.defaults with kbdEnable := true } } : State).setup.kbdEnable = true ∧
    State.reset.setup.kbdEnable = false ∧ matrix.scan false 0x04#8 = 0x10#8 ∧
    matrix.scan true 0xDB#8 = 0x11#8 := by decide

/-- Each clause: PER_TICK and ELAPSED with a lag of one, no lag, and the lock-step mode. -/
theorem witness_RelaxedDispatchAdvances :
    ((lagging [.dispatch matrix]).setup.check = none ∧ (lagging []).setup.lockstep = false ∧
      (lagging []).dispatched < (lagging []).ticks ∧ (lagging []).setup.tickAdvance = .perTick) ∧
    ({ relaxed with tickAdvance := .elapsed } : Setup).check = none ∧
    ({ State.reset with setup := relaxed } : State).ticks ≤ State.reset.dispatched ∧
    State.reset.setup.lockstep = true := by decide

theorem witness_CaughtUpRelaxedTickIsALockstepTick :
    ({ State.reset with setup := relaxed } : State).setup.check = none ∧
    ({ State.reset with setup := relaxed } : State).setup.lockstep = false ∧
    ({ State.reset with setup := relaxed } : State).dispatched = State.reset.ticks := by decide

/-- An overlapped read that acknowledges, and one that does not. -/
theorem witness_OverlapLeavesTheRestSerial :
    (∃ t, step (lagging [.overlap 0x1910400#25 matrix]) = .next t) ∧
    (∃ t, step (lagging [.overlap 0x1910500#25 matrix]) = .next t) ∧
    readAckMask .t1cL ≠ 0#7 ∧ readAckMask .t1cH = 0#7 := ⟨⟨_, rfl⟩, ⟨_, rfl⟩, by decide, by decide⟩

theorem witness_ShutdownQuantumChangesNoMemory :
    (offering [.shutdown matrix]).setup.check = none ∧
    (offering [.shutdown matrix]).inputs = .shutdown matrix :: [] := by decide

theorem witness_LaunchStatesMeetTheInvariant : Setup.defaults.check = none ∧ Memory.wf ⟨[(0xE000, 0xEA#8)]⟩ = true := by decide

theorem witness_EveryStepKeepsTheInvariant :
    (offering [.bus 0x0910141#25 matrix]).Inv ∧
    ∃ t, step (offering [.bus 0x0910141#25 matrix]) = .next t := ⟨offering_inv _, ⟨_, rfl⟩⟩

theorem witness_EveryOperationCompletes :
    (offering [.call .via1 0x2001#16]).setup.check = none ∧
    (offering [.bus 0x1FFFFFF#25 matrix]).setup.check = none := by decide

theorem witness_EveryAdmittedInputCompletes :
    (offering [.call .via1 0x2001#16]).setup.check = none ∧
    (offering [.call .via1 0x2001#16]).admits (.call .via1 0x2001#16) = true ∧
    (offering []).admits (.call .via1 0x2000#16) = false ∧
    (lagging []).admits (.dispatch matrix) = true ∧ (offering []).admits (.dispatch matrix) = false := by
  decide

theorem witness_RefusedSetupsHaveNoRun :
    ({ State.reset with setup := { Setup.defaults with mailboxCapacity := 0 } } : State).setup.check =
      some .mailboxCapacity := by decide

theorem witness_PageTableAndSetupAreFixed :
    ∃ t, step (offering [.bus 0x0910141#25 matrix]) = .next t := ⟨_, rfl⟩

/-- A step that changes a byte of MEM. -/
theorem witness_OnlyBusWritesChangeMemory :
    ∃ t, State.reset.mem.wf = true ∧ step (offering [.bus 0x0020077#25 matrix]) = .next t ∧
      t.mem.read 0x0200#16 ≠ (offering [.bus 0x0020077#25 matrix]).mem.read 0x0200#16 :=
  ⟨_, by decide, rfl, by decide⟩

theorem witness_CapacityIsUnobservableInLockstep :
    ∃ t, (offering [.bus 0x0910141#25 matrix]).setup.lockstep = true ∧
      (offering [.bus 0x0910141#25 matrix]).mbox = [] ∧ 1 ≤ 1 ∧
      step (offering [.bus 0x0910141#25 matrix]) = .next t := ⟨_, by decide, rfl, le_rfl, rfl⟩

theorem witness_FirstTickAfterResetExpiresBothTimers : ∃ s1, exec (.reset .via1) State.reset = .next s1 := ⟨_, rfl⟩

theorem witness_TimerLoadReadsBack :
    ∃ s1 s2, exec (.wrT1cL .via1 0x34#8) State.reset = .next s1 ∧
      exec (.wrT1cH .via1 0x12#8) s1 = .next s2 := ⟨_, _, rfl, rfl⟩

theorem witness_PulseShorterThanATickIsLost :
    ∃ s1 s2 t, (State.reset.via .via1).ca1 = (State.reset.via .via1).ca1Prev ∧
      exec (.setCa1 .via1 (!(State.reset.via .via1).ca1)) State.reset = .next s1 ∧
      exec (.setCa1 .via1 (State.reset.via .via1).ca1) s1 = .next s2 ∧
      exec (.tick .via1 1#12) s2 = .next t := ⟨_, _, _, rfl, rfl, rfl, rfl⟩

theorem witness_IdleAndLateSteps :
    State.reset.setup.check = none ∧ State.reset.inputs = [] ∧
    (offering [.lateCycle]).inputs = .lateCycle :: [] := by decide

theorem witness_SecondInstanceDoesNotReachTheFirst :
    ∃ t, (offering [.bus 0x0910141#25 matrix]).setup.lockstep = true ∧
      (offering [.bus 0x0910141#25 matrix]).setup.kbdEnable = false ∧
      (∀ r, viaRead (offering [.bus 0x0910141#25 matrix]) 0x0910141#25 ≠ some (.via2, r)) ∧
      step (offering [.bus 0x0910141#25 matrix]) = .next t :=
  ⟨_, by decide, by decide, fun r => by cases r <;> decide, rfl⟩

end Sys2Proof.Tests
end

/-! PROOFS of the family 20_memory: what `ioDecode` answers for an address (R63). -/

namespace Sys2Proof.Proofs

open Sys2Proof Sys2Proof.Machine

section IoDecode

/-! ### The fields of an address (R17, R96) -/

/-- The index of the register an address names is its low nibble. -/
@[simp] theorem regOf_bits (a : Addr) : (regOf a).bits = a.extractLsb' 0 4 :=
  Reg.bits_ofBits _

/-- The block number lies in the low byte of an address. -/
theorem blockOf_eq_of_lowByte (a : Addr) : blockOf a = (a.extractLsb' 0 8).extractLsb' 4 4 :=
  (BitVec.extractLsb'_extractLsb'_of_le (by decide)).symm

/-- The register index lies in the low byte of an address. -/
theorem regOf_eq_of_lowByte (a : Addr) :
    regOf a = Reg.ofBits ((a.extractLsb' 0 8).extractLsb' 0 4) :=
  congrArg Reg.ofBits (BitVec.extractLsb'_extractLsb'_of_le (by decide)).symm

/-! ### An equation of `ioDecode` for each of its outcomes (R63) -/

variable {p : Setup} {a b : Addr}

theorem ioDecode_of_via1Block (h1 : blockOf a = p.via1Block) :
    ioDecode p a = some (.via1, regOf a) :=
  if_pos h1

theorem ioDecode_of_via2Block (h1 : blockOf a ≠ p.via1Block) (h2 : blockOf a = p.via2Block)
    (hc : p.viaCount = 2) : ioDecode p a = some (.via2, regOf a) :=
  (if_neg h1).trans (if_pos ⟨h2, hc⟩)

theorem ioDecode_of_noBlock (h1 : blockOf a ≠ p.via1Block)
    (h2 : ¬(blockOf a = p.via2Block ∧ p.viaCount = 2)) : ioDecode p a = none :=
  (if_neg h1).trans (if_neg h2)

/-- Addresses with the same low byte decode alike: the page number plays no part. -/
theorem ioDecode_eq_of_lowByte_eq (h : b.extractLsb' 0 8 = a.extractLsb' 0 8) :
    ioDecode p b = ioDecode p a := by
  have hblock : blockOf b = blockOf a := by
    rw [blockOf_eq_of_lowByte, h, ← blockOf_eq_of_lowByte]
  have hreg : regOf b = regOf a := by
    rw [regOf_eq_of_lowByte, h, ← regOf_eq_of_lowByte]
  rw [ioDecode, hblock, hreg, ioDecode]

end IoDecode

/-- Settles O6: an equation of `ioDecode` for each outcome, and its dependence on the low byte alone. -/
theorem ioDecodeSelectsByBlock : Obligations.IoDecodeSelectsByBlock := by
  intro p a
  refine ⟨fun h1 => ?via1, fun h1 h2 hc => ?via2, fun h1 h2 => ?unmapped, fun b h => ?page⟩
  case via1 => exact ⟨regOf a, ioDecode_of_via1Block h1, regOf_bits a⟩
  case via2 => exact ⟨regOf a, ioDecode_of_via2Block h1 h2 hc, regOf_bits a⟩
  case unmapped => exact ioDecode_of_noBlock h1 h2
  case page => exact ioDecode_eq_of_lowByte_eq h

end Sys2Proof.Proofs

/-! PROOFS of the family 30_encoding: what the decoders answer for a word of each format (R91, R93, R97). -/

namespace Sys2Proof.Proofs

open Sys2Proof Sys2Proof.Machine

section BusWords

/-! ### The fields of a BUS word (R91) -/

variable (r : BitVec 1) (a : Addr) (d : Byte)

theorem busWord_direction : (r ++ (a ++ d)).getLsbD 24 = r.getLsbD 0 :=
  BitVec.getLsbD_append.trans (if_neg (by decide))

theorem busWord_addr : (r ++ (a ++ d)).extractLsb' 8 16 = a :=
  (BitVec.extractLsb'_append_eq_of_add_le (by decide)).trans BitVec.extractLsb'_append_eq_left

theorem busWord_data : (r ++ (a ++ d)).extractLsb' 0 8 = d :=
  (BitVec.extractLsb'_append_eq_of_add_le (by decide)).trans BitVec.extractLsb'_append_eq_right

/-- A BUS word is its direction bit, its address and its data. -/
theorem busWord_eq_fields (w : BusWord) :
    w = w.extractLsb' 24 1 ++ (w.extractLsb' 8 16 ++ w.extractLsb' 0 8) := by
  have lower : w.extractLsb' 8 16 ++ w.extractLsb' 0 8 = w.extractLsb' 0 24 :=
    BitVec.extractLsb'_append_extractLsb'_eq_extractLsb' rfl
  have whole : w.extractLsb' 24 1 ++ w.extractLsb' 0 24 = w :=
    BitVec.extractLsb'_append_extractLsb'
  rw [lower, whole]

/-- The decoder answers by the fields of the word; the data of a read plays no part. -/
theorem decodeBus_append :
    decodeBus (r ++ (a ++ d)) = if r.getLsbD 0 then .busRd a else .busWr a d := by
  simp only [decodeBus, busWord_direction, busWord_addr, busWord_data]

end BusWords

/-- Settles O5: the decoder's answer by the fields of a word, and the word rebuilt from its fields. -/
theorem everyBusWordIsACycle : Obligations.EveryBusWordIsACycle := by
  refine ⟨fun a d => ?read, fun a d => ?write, fun w => ?fields⟩
  case read => exact decodeBus_append 1#1 a d
  case write => exact decodeBus_append 0#1 a d
  case fields => exact ⟨_, _, _, busWord_eq_fields w⟩

section OperationClasses

/-! ### An equation of `decodeViaop` for each operation class with a refused word (R93, R97) -/

variable (v : ViaId) {w : OpWord}

theorem decodeViaop_of_readReg (h : (w.extractLsb' 12 4).toNat = 1) :
    decodeViaop v w =
      if w.extractLsb' 0 8 = 0#8 then .ok (readInstr v (Reg.ofBits (w.extractLsb' 8 4)))
      else .error .reservedBits := by
  simp only [decodeViaop, h]

theorem decodeViaop_of_tick (h : (w.extractLsb' 12 4).toNat = 2) :
    decodeViaop v w =
      if w.extractLsb' 0 12 = 0#12 then .error .tickZero else .ok (.tick v (w.extractLsb' 0 12)) := by
  simp only [decodeViaop, h]

theorem decodeViaop_of_reset (h : (w.extractLsb' 12 4).toNat = 3) :
    decodeViaop v w =
      if w.extractLsb' 0 12 = 0#12 then .ok (.reset v) else .error .reservedBits := by
  simp only [decodeViaop, h]

theorem decodeViaop_of_setLine (h : (w.extractLsb' 12 4).toNat = 4) :
    decodeViaop v w =
      if w.extractLsb' 10 2 = 0#2 ∧ w.extractLsb' 1 7 = 0#7 then
        .ok (setLineInstr v (w.getLsbD 0) (Line.ofBits (w.extractLsb' 8 2)))
      else .error .reservedBits := by
  simp only [decodeViaop, h]

theorem decodeViaop_of_setPort (h : (w.extractLsb' 12 4).toNat = 5) :
    decodeViaop v w =
      if w.extractLsb' 9 3 = 0#3 then
        .ok (setPortInstr v (w.extractLsb' 0 8) (Port.ofBit (w.getLsbD 8)))
      else .error .reservedBits := by
  simp only [decodeViaop, h]

theorem decodeViaop_of_getLine (h : (w.extractLsb' 12 4).toNat = 6) :
    decodeViaop v w =
      if w.extractLsb' 10 2 = 0#2 ∧ w.extractLsb' 0 8 = 0#8 then
        .ok (getLineInstr v (Line.ofBits (w.extractLsb' 8 2)))
      else .error .reservedBits := by
  simp only [decodeViaop, h]

theorem decodeViaop_of_getPort (h : (w.extractLsb' 12 4).toNat = 7) :
    decodeViaop v w =
      if w.extractLsb' 9 3 = 0#3 ∧ w.extractLsb' 0 8 = 0#8 then
        .ok (getPortInstr v (Port.ofBit (w.getLsbD 8)))
      else .error .reservedBits := by
  simp only [decodeViaop, h]

/-- The classes 0x8 to 0xF are reserved whatever the other bits are. -/
theorem decodeViaop_of_reservedClass (h : 8 ≤ (w.extractLsb' 12 4).toNat) :
    decodeViaop v w = .error .reservedClass := by
  obtain ⟨k, hk⟩ := Nat.exists_eq_add_of_le' h
  simp only [decodeViaop, hk]

end OperationClasses

section Steps

variable {s : State}

/-- A step of an accepted setup takes the first input waiting (R230, R235). -/
theorem step_of_inputs {e : Input} {rest : List Input} (hc : s.setup.check = none)
    (hi : s.inputs = e :: rest) : step s = runInput e { s with inputs := rest } := by
  rw [step_of_check hc, runNext, hi]

/-- A call whose word the decoder refuses is refused by the same name (R97). -/
theorem runInput_call_of_error {v : ViaId} {w : OpWord} {e : DecodeError}
    (h : decodeViaop v w = .error e) : runInput (.call v w) s = .refused (.reservedWord e) := by
  rw [runInput, decode, h, runDecoded]

end Steps

/-- Settles O4: the refusing branch of each operation class, and the step that meets a refused word. -/
theorem reservedWordsAreRefused : Obligations.ReservedWordsAreRefused := by
  refine ⟨fun v w => ⟨?reservedClass, ?readReg, ?tick, ?reset, ?setLine, ?setPort, ?getLine, ?getPort⟩,
    fun s v w rest e hc hi he => ?step⟩
  case reservedClass => exact decodeViaop_of_reservedClass v
  case readReg => exact fun h hd => (decodeViaop_of_readReg v h).trans (if_neg hd)
  case tick => exact fun h hn => ⟨.tickZero, (decodeViaop_of_tick v h).trans (if_pos hn)⟩
  case reset => exact fun h hn => (decodeViaop_of_reset v h).trans (if_neg hn)
  case setLine => exact fun h hb => (decodeViaop_of_setLine v h).trans (if_neg (not_and_or.2 hb))
  case setPort => exact fun h hb => (decodeViaop_of_setPort v h).trans (if_neg hb)
  case getLine => exact fun h hb => (decodeViaop_of_getLine v h).trans (if_neg (not_and_or.2 hb))
  case getPort => exact fun h hb => (decodeViaop_of_getPort v h).trans (if_neg (not_and_or.2 hb))
  case step => exact (step_of_inputs hc hi).trans (runInput_call_of_error he)

end Sys2Proof.Proofs

/-! PROOFS of the family 40_bus_cycles: what a read and a write bus cycle do in each class of
page (R110 to R118). -/

namespace Sys2Proof.Proofs

open Sys2Proof Sys2Proof.Machine

section BusCycles

variable {s : State} {a : Addr} {d : Byte}

/-! ### The outcome of a read bus cycle, by the page and its decode (R110) -/

/-- A page that is not MappedIO is read from MEM (R118). -/
theorem exec_busRd_of_not_mappedIO (hc : classify s.pt a ≠ .mappedIO) :
    exec (.busRd a) s = .next (s.rdPlain a) := by
  obtain ⟨-, h⟩ | ⟨hm, -⟩ | ⟨_, _, hm, -⟩ := busRd_cases s a
  · exact congrArg _ h
  · exact absurd hm hc
  · exact absurd hm hc

theorem exec_busRd_of_unmapped (hc : classify s.pt a = .mappedIO) (hd : ioDecode s.setup a = none) :
    exec (.busRd a) s = .next s.rdUnmapped := by
  obtain ⟨hm, -⟩ | ⟨-, -, h⟩ | ⟨_, _, -, hs, -⟩ := busRd_cases s a
  · exact absurd hc hm
  · exact congrArg _ h
  · rw [hd] at hs; cases hs

theorem exec_busRd_of_mapped {v : ViaId} {r : Reg} (hc : classify s.pt a = .mappedIO)
    (hd : ioDecode s.setup a = some (v, r)) : exec (.busRd a) s = .next (s.rdVia v r) := by
  obtain ⟨hm, -⟩ | ⟨-, hs, -⟩ | ⟨_, _, -, hs, h⟩ := busRd_cases s a
  · exact absurd hc hm
  · rw [hd] at hs; cases hs
  · rw [hd] at hs; cases hs; exact congrArg _ h

/-- READ_REG by operation is READ_REG by register index (R92). -/
theorem exec_readInstr (v : ViaId) (r : Reg) (s : State) :
    exec (readInstr v r) s = .next (s.rdVia v r) := by
  cases r <;> rfl

/-! ### The outcome of a write bus cycle, by the page and its decode (R111)

Each returns nothing, so the result field is the one `State.busWr` sets. -/

theorem exec_busWr (a : Addr) (d : Byte) (s : State) :
    exec (.busWr a d) s = .next { s.busWrStore a d with result := .none } := rfl

theorem exec_busWr_of_ram (hc : classify s.pt a = .ram) :
    exec (.busWr a d) s = .next { s.storeByte a d with result := .none } := by
  simp only [exec_busWr, State.busWrStore, hc]

theorem exec_busWr_of_rom (hc : classify s.pt a = .rom) :
    exec (.busWr a d) s = .next { s with result := .none } := by
  simp only [exec_busWr, State.busWrStore, hc]

theorem exec_busWr_of_unmapped (hc : classify s.pt a = .mappedIO) (hd : ioDecode s.setup a = none) :
    exec (.busWr a d) s = .next { s.storeByte a d with result := .none } := by
  simp only [exec_busWr, State.busWrStore, hc, hd]

theorem exec_busWr_of_mapped (hc : classify s.pt a = .mappedIO)
    (hd : (ioDecode s.setup a).isSome = true) :
    exec (.busWr a d) s = .next { (s.storeByte a d).enqueue a d with result := .none } := by
  obtain ⟨p, hp⟩ := Option.isSome_iff_exists.1 hd
  simp only [exec_busWr, State.busWrStore, hc, hp]

/-! ### The mailbox after a push (R73) -/

/-- A push onto a mailbox that is not full appends. -/
theorem pushEntry_of_room {cap : Nat} {q : List Entry} (h : q.length ≠ cap) (e : Entry) :
    pushEntry cap q e = q ++ [e] := by
  rw [pushEntry, if_neg h]

/-- A push onto a full mailbox discards its head. -/
theorem pushEntry_of_full {cap : Nat} {q : List Entry} (h : q.length = cap) (e : Entry) :
    pushEntry cap q e = q.tail ++ [e] := by
  rw [pushEntry, if_pos h]

end BusCycles

/-- Settles O7: neither a RAM nor a ROM page is MappedIO, so the read is the plain one. -/
theorem plainReadReturnsTheStoredByte : Obligations.PlainReadReturnsTheStoredByte := by
  intro a s hc
  have hplain : classify s.pt a ≠ .mappedIO := by
    obtain hc | hc := hc <;> simp [hc]
  exact exec_busRd_of_not_mappedIO hplain

/-- Settles O8: the read's unmapped case, and the default of the placeholder. -/
theorem unmappedReadReturnsThePlaceholder : Obligations.UnmappedReadReturnsThePlaceholder :=
  ⟨fun _ _ hc hd => exec_busRd_of_unmapped hc hd, rfl⟩

/-- Settles O9: both the cycle and the call are `State.rdVia` of the decoded register. -/
theorem mappedReadIsReadReg : Obligations.MappedReadIsReadReg := by
  intro a s v r hc hd
  have hrd : exec (.busRd a) s = .next (s.rdVia v r) := exec_busRd_of_mapped hc hd
  exact ⟨hrd.trans (exec_readInstr v r s).symm, s.rdVia v r, _, hrd, callReturns_result ..⟩

/-- A read of a RAM page returns the byte known to be stored there (R118). -/
theorem exec_busRd_of_ram {s : State} {a : Addr} {d : Byte} (hc : classify s.pt a = .ram)
    (hd : s.mem.read a = d) : exec (.busRd a) s = .next { s with result := .byte d } := by
  subst hd
  exact plainReadReturnsTheStoredByte a s (.inl hc)

/-- Settles O10: the memory's laws for the stored byte; the store keeps PT, so the read after it is plain. -/
theorem ramWriteStoresTheByte : Obligations.RamWriteStoresTheByte := by
  intro a d s hwf hc
  have hsame : (s.mem.write a d).read a = d := Memory.read_write_same hwf a d
  exact ⟨_, exec_busWr_of_ram hc, rfl, hsame, fun _ hb => Memory.read_write_other s.mem d hb,
    exec_busRd_of_ram hc hsame⟩

/-- Settles O11: the write's ROM case, then a plain read of the byte that is still stored. -/
theorem romWriteChangesNothing : Obligations.RomWriteChangesNothing := by
  intro a d s hc
  have hread : exec (.busRd a) { s with result := .none } =
      .next { s with result := .byte (s.mem.read a) } :=
    plainReadReturnsTheStoredByte a _ (.inr hc)
  exact ⟨exec_busWr_of_rom hc, _, _, hread, rfl, Iff.rfl⟩

/-- Settles O12: the memory's laws for the stored byte, and the two cases of a push onto the mailbox. -/
theorem mappedWriteStoresAndPosts : Obligations.MappedWriteStoresAndPosts := by
  intro a d s hwf hc hd
  refine ⟨_, exec_busWr_of_mapped hc hd, rfl, ?stored, fun b hb => ?others, fun h => ?room,
    fun h => ?full⟩
  case stored => exact Memory.read_write_same hwf a d
  case others => exact Memory.read_write_other s.mem d hb
  case room => exact pushEntry_of_room h _
  case full => exact pushEntry_of_full h _

/-- Settles O13: the memory's laws for the stored byte; the mailbox and the instances are those of before. -/
theorem unmappedWriteOnlyStores : Obligations.UnmappedWriteOnlyStores := by
  intro a d s hwf hc hd
  exact ⟨_, exec_busWr_of_unmapped hc hd, rfl, Memory.read_write_same hwf a d,
    fun _ hb => Memory.read_write_other s.mem d hb⟩

end Sys2Proof.Proofs

/-! PROOFS of the family 41_via_port_registers: what the calls of RS0, RS1, RS2, RS3 and RS15 return and
leave (R130 to R142). -/

namespace Sys2Proof.Proofs

open Sys2Proof Sys2Proof.Machine

section RegisterCalls

/-! ### The word and the outcome of a register call, by its register index (R92, R93) -/

theorem encode_readInstr (v : ViaId) (r : Reg) :
    encode (readInstr v r) = .call v (regWord 1#4 r 0#8) := by
  cases r <;> rfl

theorem encode_writeInstr (v : ViaId) (d : Byte) (r : Reg) :
    encode (writeInstr v d r) = .call v (regWord 0#4 r d) := by
  cases r <;> rfl

/-- WRITE_REG by operation is WRITE_REG by register index (R92). -/
theorem exec_writeInstr (v : ViaId) (d : Byte) (r : Reg) (s : State) :
    exec (writeInstr v d r) s = .next (s.writeCall v (·.writeReg r d)) := by
  cases r <;> rfl

variable {v : ViaId} {r : Reg} {s : State} {b d : Byte} {x : Via}

/-- A read call returns the byte of READ_REG, and replaces one VIA by what READ_REG leaves. -/
theorem exec_readInstr_of_readReg (h : (s.via v).readReg r = (b, x)) :
    exec (readInstr v r) s = .next { s.setVia v x with result := .byte b } := by
  rw [exec_readInstr, State.rdVia, State.readCall, h, State.callReturns]

/-- A read call whose READ_REG leaves its VIA as it is only returns the byte. -/
theorem exec_readInstr_of_readReg_self (h : (s.via v).readReg r = (b, s.via v)) :
    exec (readInstr v r) s = .next { s with result := .byte b } := by
  rw [exec_readInstr_of_readReg h, setVia_self]

/-- A write call returns nothing, and replaces one VIA by what WRITE_REG leaves. -/
theorem exec_writeInstr_of_writeReg (h : (s.via v).writeReg r d = x) :
    exec (writeInstr v d r) s = .next { s.setVia v x with result := .none } := by
  rw [exec_writeInstr, State.writeCall, h, State.callReturns]

end RegisterCalls

section PortRegisters

variable (x : Via) (d : Byte)

/-! ### The acknowledges (R135): the mask of the flags that stay -/

theorem ackA_eq : x.ackA = { x with ifr := x.ifr &&& 0b1111100#7 } := rfl

theorem ackB_eq : x.ackB = { x with ifr := x.ifr &&& 0b1100111#7 } := rfl

/-! ### READ_REG of each port register: the byte and the VIA left -/

/-- RS0 (R130): the input pins where DDRB is 0, ORB where it is 1; then ackB. -/
theorem readReg_orbIrb :
    x.readReg .orbIrb = ((x.pb &&& ~~~x.ddrb) ||| (x.orb &&& x.ddrb),
      { x with ifr := x.ifr &&& 0b1100111#7 }) :=
  congrArg (Prod.mk x.irb) (ackB_eq x)

/-- RS1 (R132): the port as it is, then ackA. -/
theorem readReg_oraIra :
    x.readReg .oraIra = (x.pa, { x with ifr := x.ifr &&& 0b1111100#7 }) :=
  congrArg (Prod.mk x.ira) (ackA_eq x)

/-- RS2 (R139). -/
theorem readReg_ddrb : x.readReg .ddrb = (x.ddrb, x) := rfl

/-- RS3 (R142). -/
theorem readReg_ddra : x.readReg .ddra = (x.ddra, x) := rfl

/-- RS15 (R140): the byte of RS1, with no acknowledge. -/
theorem readReg_oraIraNh : x.readReg .oraIraNh = (x.pa, x) := rfl

/-! ### WRITE_REG of each port register: the VIA left -/

/-- RS0 (R131): ackB and the recompute of port B with the new ORB. -/
theorem writeReg_orbIrb :
    x.writeReg .orbIrb d = { x with
      orb := d
      ifr := x.ifr &&& 0b1100111#7
      pb := (x.pb &&& ~~~x.ddrb) ||| (d &&& x.ddrb) } := by
  rw [Via.writeReg, Via.writeOrb, ackB_eq, Via.recomputeB]

/-- RS1 (R133): ackA, and port A takes the byte whatever DDRA holds. -/
theorem writeReg_oraIra :
    x.writeReg .oraIra d = { x with ifr := x.ifr &&& 0b1111100#7, ora := d, pa := d } := by
  rw [Via.writeReg, Via.writeOra, ackA_eq, Via.recomputeA]

/-- RS2 (R137): the recompute of port B with the new DDRB. -/
theorem writeReg_ddrb :
    x.writeReg .ddrb d = { x with
      ddrb := d
      pb := (x.pb &&& ~~~d) ||| (x.orb &&& d) } := by
  rw [Via.writeReg, Via.writeDdrb, Via.recomputeB]

/-- RS3 (R138): the recompute of port A, which takes ORA. -/
theorem writeReg_ddra : x.writeReg .ddra d = { x with ddra := d, pa := x.ora } := by
  rw [Via.writeReg, Via.writeDdra, Via.recomputeA]

/-- RS15 (R141): RS1's write with no acknowledge. -/
theorem writeReg_oraIraNh : x.writeReg .oraIraNh d = { x with ora := d, pa := d } := by
  rw [Via.writeReg, Via.writeOraNh, Via.recomputeA]

end PortRegisters

/-- Settles O15: each call's word by its register index, and its outcome by what READ_REG of that register
answers. -/
theorem portRegisterReads : Obligations.PortRegisterReads := by
  intro v s
  refine ⟨encode_readInstr v .orbIrb, ?rs0, encode_readInstr v .oraIra, ?rs1,
    encode_readInstr v .ddrb, ?rs2, encode_readInstr v .ddra, ?rs3,
    encode_readInstr v .oraIraNh, ?rs15⟩
  case rs0 => exact exec_readInstr_of_readReg (readReg_orbIrb _)
  case rs1 => exact exec_readInstr_of_readReg (readReg_oraIra _)
  case rs2 => exact exec_readInstr_of_readReg_self (readReg_ddrb _)
  case rs3 => exact exec_readInstr_of_readReg_self (readReg_ddra _)
  case rs15 => exact exec_readInstr_of_readReg_self (readReg_oraIraNh _)

/-- Settles O16: each call's word by its register index, and its outcome by what WRITE_REG of that register
leaves. -/
theorem portRegisterWrites : Obligations.PortRegisterWrites := by
  intro v d s
  refine ⟨encode_writeInstr v d .orbIrb, ?rs0, encode_writeInstr v d .oraIra, ?rs1,
    encode_writeInstr v d .ddrb, ?rs2, encode_writeInstr v d .ddra, ?rs3,
    encode_writeInstr v d .oraIraNh, ?rs15⟩
  case rs0 => exact exec_writeInstr_of_writeReg (writeReg_orbIrb _ d)
  case rs1 => exact exec_writeInstr_of_writeReg (writeReg_oraIra _ d)
  case rs2 => exact exec_writeInstr_of_writeReg (writeReg_ddrb _ d)
  case rs3 => exact exec_writeInstr_of_writeReg (writeReg_ddra _ d)
  case rs15 => exact exec_writeInstr_of_writeReg (writeReg_oraIraNh _ d)

end Sys2Proof.Proofs

/-! PROOFS of the family 42_via_timer_registers: what the calls of RS4 to RS9 return and leave (R150 to
R161). -/

namespace Sys2Proof.Proofs

open Sys2Proof Sys2Proof.Machine

section TimerRegisters

variable (x : Via) (d : Byte)

/-! ### The acknowledges of the timers (R41, R69): the mask of the flags that stay -/

theorem dropFlags_flagT1_eq : x.dropFlags flagT1 = { x with ifr := x.ifr &&& 0b0111111#7 } := rfl

theorem dropFlags_flagT2_eq : x.dropFlags flagT2 = { x with ifr := x.ifr &&& 0b1011111#7 } := rfl

/-! ### The bytes of a 16-bit timer value (R66) -/

theorem loByte_eq (c : Count) : loByte c = c.extractLsb' 0 8 := rfl

theorem hiByte_eq (c : Count) : hiByte c = c.extractLsb' 8 8 := rfl

theorem withLo_eq (c : Count) : withLo c d = c.extractLsb' 8 8 ++ d := rfl

theorem withHi_eq (c : Count) : withHi c d = d ++ c.extractLsb' 0 8 := rfl

/-- Two bytes joined are the high one shifted over the low one, the form R160 writes. -/
theorem append_eq_shiftLeft_or (h l : Byte) :
    h ++ l = (h.setWidth 16 <<< 8) ||| l.setWidth 16 :=
  calc h ++ l = (h ++ l).setWidth 16 := (BitVec.setWidth_eq _).symm
    _ = (h.setWidth 16 <<< 8) ||| l.setWidth 16 := BitVec.setWidth_append_eq_shiftLeft_setWidth_or

/-! ### READ_REG of each timer register: the byte and the VIA left -/

/-- RS4 (R151): the counter's low byte; then T1 is acknowledged. -/
theorem readReg_t1cL :
    x.readReg .t1cL = (x.t1c.extractLsb' 0 8, { x with ifr := x.ifr &&& 0b0111111#7 }) := by
  rw [Via.readReg, Via.readT1cL, loByte_eq, dropFlags_flagT1_eq]

/-- RS5 (R153). -/
theorem readReg_t1cH : x.readReg .t1cH = (x.t1c.extractLsb' 8 8, x) := by
  rw [Via.readReg, Via.readT1cH, hiByte_eq]

/-- RS6 (R155). -/
theorem readReg_t1lL : x.readReg .t1lL = (x.t1l.extractLsb' 0 8, x) := by
  rw [Via.readReg, Via.readT1lL, loByte_eq]

/-- RS7 (R157). -/
theorem readReg_t1lH : x.readReg .t1lH = (x.t1l.extractLsb' 8 8, x) := by
  rw [Via.readReg, Via.readT1lH, hiByte_eq]

/-- RS8 (R159): the counter's low byte; then T2 is acknowledged. -/
theorem readReg_t2cL :
    x.readReg .t2cL = (x.t2c.extractLsb' 0 8, { x with ifr := x.ifr &&& 0b1011111#7 }) := by
  rw [Via.readReg, Via.readT2cL, loByte_eq, dropFlags_flagT2_eq]

/-- RS9 (R161). -/
theorem readReg_t2cH : x.readReg .t2cH = (x.t2c.extractLsb' 8 8, x) := by
  rw [Via.readReg, Via.readT2cH, hiByte_eq]

/-! ### WRITE_REG of each timer register: the VIA left -/

/-- RS4 (R150): the latch takes the byte, the counter does not. -/
theorem writeReg_t1cL :
    x.writeReg .t1cL d = { x with t1l := x.t1l.extractLsb' 8 8 ++ d } := by
  rw [Via.writeReg, Via.writeT1cL, withLo_eq]

/-- RS5 (R152): the counter takes the latch that the byte completes, and T1 restarts. -/
theorem writeReg_t1cH :
    x.writeReg .t1cH d = { x with
      t1l := d ++ x.t1l.extractLsb' 0 8
      t1c := d ++ x.t1l.extractLsb' 0 8
      ifr := x.ifr &&& 0b0111111#7
      t1fired := false } := by
  rw [Via.writeReg, Via.writeT1cH, withHi_eq, dropFlags_flagT1_eq]

/-- RS6 (R154): the same as RS4's write. -/
theorem writeReg_t1lL :
    x.writeReg .t1lL d = { x with t1l := x.t1l.extractLsb' 8 8 ++ d } := by
  rw [Via.writeReg, Via.writeT1lL, withLo_eq]

/-- RS7 (R156): T1 is acknowledged but does not restart. -/
theorem writeReg_t1lH :
    x.writeReg .t1lH d = { x with
      t1l := d ++ x.t1l.extractLsb' 0 8
      ifr := x.ifr &&& 0b0111111#7 } := by
  rw [Via.writeReg, Via.writeT1lH, withHi_eq, dropFlags_flagT1_eq]

/-- RS8 (R158). -/
theorem writeReg_t2cL : x.writeReg .t2cL d = { x with t2l := d } := by
  rw [Via.writeReg, Via.writeT2cL]

/-- RS9 (R160): the counter takes the byte over the latch, and T2 restarts. -/
theorem writeReg_t2cH :
    x.writeReg .t2cH d = { x with
      t2c := (d.setWidth 16 <<< 8) ||| x.t2l.setWidth 16
      ifr := x.ifr &&& 0b1011111#7
      t2fired := false } := by
  rw [Via.writeReg, Via.writeT2cH, append_eq_shiftLeft_or, dropFlags_flagT2_eq]

end TimerRegisters

/-- Settles O17: each call's word by its register index, and its outcome by what READ_REG of that register
answers. -/
theorem timerRegisterReads : Obligations.TimerRegisterReads := by
  intro v s
  refine ⟨encode_readInstr v .t1cL, ?rs4, encode_readInstr v .t1cH, ?rs5,
    encode_readInstr v .t1lL, ?rs6, encode_readInstr v .t1lH, ?rs7,
    encode_readInstr v .t2cL, ?rs8, encode_readInstr v .t2cH, ?rs9⟩
  case rs4 => exact exec_readInstr_of_readReg (readReg_t1cL _)
  case rs5 => exact exec_readInstr_of_readReg_self (readReg_t1cH _)
  case rs6 => exact exec_readInstr_of_readReg_self (readReg_t1lL _)
  case rs7 => exact exec_readInstr_of_readReg_self (readReg_t1lH _)
  case rs8 => exact exec_readInstr_of_readReg (readReg_t2cL _)
  case rs9 => exact exec_readInstr_of_readReg_self (readReg_t2cH _)

/-- Settles O18: each call's word by its register index, and its outcome by what WRITE_REG of that register
leaves. -/
theorem timerRegisterWrites : Obligations.TimerRegisterWrites := by
  intro v d s
  refine ⟨encode_writeInstr v d .t1cL, ?rs4, encode_writeInstr v d .t1cH, ?rs5,
    encode_writeInstr v d .t1lL, ?rs6, encode_writeInstr v d .t1lH, ?rs7,
    encode_writeInstr v d .t2cL, ?rs8, encode_writeInstr v d .t2cH, ?rs9⟩
  case rs4 => exact exec_writeInstr_of_writeReg (writeReg_t1cL _ d)
  case rs5 => exact exec_writeInstr_of_writeReg (writeReg_t1cH _ d)
  case rs6 => exact exec_writeInstr_of_writeReg (writeReg_t1lL _ d)
  case rs7 => exact exec_writeInstr_of_writeReg (writeReg_t1lH _ d)
  case rs8 => exact exec_writeInstr_of_writeReg (writeReg_t2cL _ d)
  case rs9 => exact exec_writeInstr_of_writeReg (writeReg_t2cH _ d)

end Sys2Proof.Proofs

/-! PROOFS of the family 43_via_control_registers: what the calls of RS10 to RS14 return and leave (R170 to
R179). -/

namespace Sys2Proof.Proofs

open Sys2Proof Sys2Proof.Machine

section ControlRegisters

/-! ### The bytes and levels the control registers are built from (R42, R45, R174) -/

/-- IRQ_PENDING as R42 writes it: the mask 0x7F takes nothing from the seven bits of IFR and IER. -/
theorem irqPending_eq (x : Via) :
    x.irqPending = decide (x.ifr &&& x.ier &&& 0x7F#7 ≠ 0#7) := by
  have hmask : x.ifr &&& x.ier &&& 0x7F#7 = x.ifr &&& x.ier := BitVec.and_allOnes
  rw [hmask, Via.irqPending, bne, beq_eq_decide, decide_not]

/-- A truth value as a bit, in the form the byte of RS13 is written in. -/
theorem ofBool_decide_eq_ite (p : Prop) [Decidable p] :
    BitVec.ofBool (decide p) = if p then 1#1 else 0#1 := by
  split
  case isTrue h => exact congrArg BitVec.ofBool (decide_eq_true h)
  case isFalse h => exact congrArg BitVec.ofBool (decide_eq_false h)

/-- The byte RS13 reads as (R177): the summary bit above the flags. -/
theorem ifrByte_eq (x : Via) :
    x.ifrByte = (if x.ifr &&& x.ier &&& 0x7F#7 ≠ 0#7 then 1#1 else 0#1) ++ x.ifr := by
  rw [Via.ifrByte, irqPending_eq, ofBool_decide_eq_ite]

theorem forcedLevel_of_low {field : BitVec 3} {line : Bool} (h : field = 0b110#3) :
    forcedLevel field line = false :=
  if_pos h

theorem forcedLevel_of_high {field : BitVec 3} {line : Bool} (h : field = 0b111#3) :
    forcedLevel field line = true := by
  rw [h, forcedLevel, if_neg (by decide), if_pos rfl]

theorem forcedLevel_of_other {field : BitVec 3} {line : Bool} (hlow : field ≠ 0b110#3)
    (hhigh : field ≠ 0b111#3) : forcedLevel field line = line :=
  (if_neg hlow).trans (if_neg hhigh)

variable (x : Via) (d : Byte)

/-! ### READ_REG of each control register: the byte; the VIA is left as it is -/

/-- RS10 (R171). -/
theorem readReg_sr : x.readReg .sr = (x.sr, x) := rfl

/-- RS11 (R173). -/
theorem readReg_acr : x.readReg .acr = (x.acr, x) := rfl

/-- RS12 (R175). -/
theorem readReg_pcr : x.readReg .pcr = (x.pcr, x) := rfl

/-- RS13 (R177). -/
theorem readReg_ifr :
    x.readReg .ifr =
      ((if x.ifr &&& x.ier &&& 0x7F#7 ≠ 0#7 then 1#1 else 0#1) ++ x.ifr, x) := by
  rw [Via.readReg, Via.readIfr, ifrByte_eq]

/-- RS14 (R179): bit 7 reads as 1. -/
theorem readReg_ier : x.readReg .ier = (1#1 ++ x.ier, x) := rfl

/-! ### WRITE_REG of each control register: the VIA left -/

/-- RS10 (R170). -/
theorem writeReg_sr : x.writeReg .sr d = { x with sr := d } := rfl

/-- RS11 (R172). -/
theorem writeReg_acr : x.writeReg .acr d = { x with acr := d } := rfl

/-- RS12 (R174): the fields d[3:1] and d[7:5] may force CA2 and CB2. -/
theorem writeReg_pcr :
    x.writeReg .pcr d = { x with
      pcr := d
      ca2 := forcedLevel (d.extractLsb' 1 3) x.ca2
      cb2 := forcedLevel (d.extractLsb' 5 3) x.cb2 } := rfl

/-- RS13 (R176): each written 1 clears its flag, and bit 7 is ignored. -/
theorem writeReg_ifr :
    x.writeReg .ifr d = { x with ifr := x.ifr &&& ~~~(d.extractLsb' 0 7) } := by
  rw [Via.writeReg, Via.writeIfr, Via.dropFlags, mask7]

/-- RS14 (R178): bit 7 selects whether the written ones set or clear their enables. -/
theorem writeReg_ier :
    x.writeReg .ier d = { x with
      ier := if d.getLsbD 7 = true then x.ier ||| d.extractLsb' 0 7
        else x.ier &&& ~~~(d.extractLsb' 0 7) } := by
  rw [Via.writeReg, Via.writeIer, mask7]

end ControlRegisters

/-- Settles O19: each call's word by its register index, and its outcome by the byte READ_REG of that register
answers. -/
theorem controlRegisterReads : Obligations.ControlRegisterReads := by
  intro v s
  refine ⟨encode_readInstr v .sr, ?rs10, encode_readInstr v .acr, ?rs11,
    encode_readInstr v .pcr, ?rs12, encode_readInstr v .ifr, ?rs13,
    encode_readInstr v .ier, ?rs14⟩
  case rs10 => exact exec_readInstr_of_readReg_self (readReg_sr _)
  case rs11 => exact exec_readInstr_of_readReg_self (readReg_acr _)
  case rs12 => exact exec_readInstr_of_readReg_self (readReg_pcr _)
  case rs13 => exact exec_readInstr_of_readReg_self (readReg_ifr _)
  case rs14 => exact exec_readInstr_of_readReg_self (readReg_ier _)

/-- Settles O20: each call's word by its register index, and its outcome by what WRITE_REG of that register
leaves. -/
theorem controlRegisterWrites : Obligations.ControlRegisterWrites := by
  intro v d s
  refine ⟨encode_writeInstr v d .sr, ?rs10, encode_writeInstr v d .acr, ?rs11,
    encode_writeInstr v d .ifr, ?rs13, encode_writeInstr v d .ier, ?rs14⟩
  case rs10 => exact exec_writeInstr_of_writeReg (writeReg_sr _ d)
  case rs11 => exact exec_writeInstr_of_writeReg (writeReg_acr _ d)
  case rs13 => exact exec_writeInstr_of_writeReg (writeReg_ifr _ d)
  case rs14 => exact exec_writeInstr_of_writeReg (writeReg_ier _ d)

/-- A write of RS12 leaves its VIA as `writeReg_pcr` says, and the rest of the state but the result. -/
theorem exec_wrPcr (v : ViaId) (d : Byte) (s : State) :
    exec (.wrPcr v d) s = .next (s.callReturns v .none { s.via v with
      pcr := d
      ca2 := forcedLevel (d.extractLsb' 1 3) (s.via v).ca2
      cb2 := forcedLevel (d.extractLsb' 5 3) (s.via v).cb2 }) :=
  exec_writeInstr_of_writeReg (writeReg_pcr _ d)

/-- Settles O21: the state left by the write of RS12, and `forcedLevel` for the three cases of a field of PCR. -/
theorem pcrWriteForcesManualLevels : Obligations.PcrWriteForcesManualLevels := by
  intro v d s
  refine ⟨encode_writeInstr v d .pcr, _, exec_wrPcr v d s, ?frame, ?lines⟩
  case frame => rw [via_callReturns_same, State.callReturns]
  case lines =>
    rw [via_callReturns_same]
    exact ⟨forcedLevel_of_low, forcedLevel_of_high, forcedLevel_of_other,
      forcedLevel_of_low, forcedLevel_of_high, forcedLevel_of_other⟩

end Sys2Proof.Proofs

/-! PROOFS of the family 44_via_tick: what TICK n leaves of the two timers, of the remembered lines and of IFR
(R190 to R194). -/

namespace Sys2Proof.Proofs

open Sys2Proof Sys2Proof.Machine

section TimerSteps

variable {x : Via} {n : Nat}

/-! ### An equation of t1_step for each of its four cases (R191) -/

theorem t1Step_of_pos (hd : 0 < countDown x.t1c n) :
    x.t1Step n = { x with t1c := BitVec.ofInt 16 (countDown x.t1c n) } :=
  if_pos hd

theorem t1Step_of_freeRun (hd : countDown x.t1c n ≤ 0) (h6 : x.acr.getLsbD 6 = true) :
    x.t1Step n = { x with
      t1c := BitVec.ofInt 16 (countDown x.t1c n + x.t1l.toNat + 2), ifr := x.ifr ||| flagT1 } :=
  (if_neg hd.not_gt).trans (if_pos h6)

theorem t1Step_of_oneShot (hd : countDown x.t1c n ≤ 0) (h6 : x.acr.getLsbD 6 = false)
    (hf : x.t1fired = false) :
    x.t1Step n = { x with
      t1c := BitVec.ofInt 16 (countDown x.t1c n + 0xFFFF), t1fired := true,
      ifr := x.ifr ||| flagT1 } :=
  (if_neg hd.not_gt).trans ((if_neg (ne_true_of_eq_false h6)).trans (if_pos hf))

theorem t1Step_of_fired (hd : countDown x.t1c n ≤ 0) (h6 : x.acr.getLsbD 6 = false)
    (hf : x.t1fired = true) :
    x.t1Step n = { x with t1c := BitVec.ofInt 16 (countDown x.t1c n) } :=
  (if_neg hd.not_gt).trans ((if_neg (ne_true_of_eq_false h6)).trans (if_neg (ne_false_of_eq_true hf)))

/-! ### An equation of t2_step for each of its four cases (R192) -/

theorem t2Step_of_held (h5 : x.acr.getLsbD 5 = true) : x.t2Step n = x :=
  if_pos h5

theorem t2Step_of_pos (h5 : x.acr.getLsbD 5 = false) (hd : 0 < countDown x.t2c n) :
    x.t2Step n = { x with t2c := BitVec.ofInt 16 (countDown x.t2c n) } :=
  (if_neg (ne_true_of_eq_false h5)).trans (if_pos hd)

theorem t2Step_of_oneShot (h5 : x.acr.getLsbD 5 = false) (hd : countDown x.t2c n ≤ 0)
    (hf : x.t2fired = false) :
    x.t2Step n = { x with
      t2c := BitVec.ofInt 16 (countDown x.t2c n + 0xFFFF), t2fired := true,
      ifr := x.ifr ||| flagT2 } :=
  (if_neg (ne_true_of_eq_false h5)).trans ((if_neg hd.not_gt).trans (if_pos hf))

theorem t2Step_of_fired (h5 : x.acr.getLsbD 5 = false) (hd : countDown x.t2c n ≤ 0)
    (hf : x.t2fired = true) :
    x.t2Step n = { x with t2c := BitVec.ofInt 16 (countDown x.t2c n) } :=
  (if_neg (ne_true_of_eq_false h5)).trans ((if_neg hd.not_gt).trans (if_neg (ne_false_of_eq_true hf)))

end TimerSteps

section Ticked

/-! ### The flags each step raises -/

/-- The flag t1_step raises (R191): at or below zero, always in free-run mode, else once. -/
def t1Flags (x : Via) (n : Nat) : Flags :=
  if countDown x.t1c n ≤ 0 ∧ (x.acr.getLsbD 6 = true ∨ x.t1fired = false) then flagT1 else 0#7

/-- The flag t2_step raises (R192): at or below zero, once, and never while ACR[5] holds the timer. -/
def t2Flags (x : Via) (n : Nat) : Flags :=
  if x.acr.getLsbD 5 = false ∧ countDown x.t2c n ≤ 0 ∧ x.t2fired = false then flagT2 else 0#7

/-- The flag of CA1 (R193): a change to the level PCR[0] names. -/
def ca1Flags (x : Via) : Flags :=
  if x.ca1 ≠ x.ca1Prev ∧ x.ca1 = x.pcr.getLsbD 0 then flagCa1 else 0#7

/-- The flag of CB1 (R193): a change to the level PCR[4] names. -/
def cb1Flags (x : Via) : Flags :=
  if x.cb1 ≠ x.cb1Prev ∧ x.cb1 = x.pcr.getLsbD 4 then flagCb1 else 0#7

/-- A bit of a flag mask that is raised under a condition. -/
theorem getLsbD_ite_zero (p : Prop) [Decidable p] (m : Flags) (i : Nat) :
    (if p then m else 0#7).getLsbD i = (decide p && m.getLsbD i) := by
  by_cases h : p <;> simp [h]

theorem getLsbD_or_flagT1 (m : Flags) : (m ||| flagT1).getLsbD 6 = true := by
  rw [BitVec.getLsbD_or, show flagT1.getLsbD 6 = true from rfl, Bool.or_true]

theorem getLsbD_or_flagT2 (m : Flags) : (m ||| flagT2).getLsbD 5 = true := by
  rw [BitVec.getLsbD_or, show flagT2.getLsbD 5 = true from rfl, Bool.or_true]

variable (x : Via) (n : Nat)

/-! ### What TICK n leaves, with each step's part in the terms of the VIA it starts from -/

/-- t1_step writes T1C, T1FIRED and IFR[6] alone. -/
theorem t1Step_eq :
    x.t1Step n = { x with
      t1c := (x.t1Step n).t1c, t1fired := (x.t1Step n).t1fired, ifr := x.ifr ||| t1Flags x n } := by
  rcases t1Step_cases x n with ⟨hd, h⟩ | ⟨hd, h6, h⟩ | ⟨hd, h6, hf, h⟩ | ⟨hd, h6, hf, h⟩
  · rw [h, t1Flags, if_neg fun hc => hd.not_ge hc.1, BitVec.or_zero]
  · rw [h, t1Flags, if_pos ⟨hd, .inl h6⟩]
  · rw [h, t1Flags, if_pos ⟨hd, .inr hf⟩]
  · rw [h, t1Flags, if_neg (by simp only [h6, hf]; tauto), BitVec.or_zero]

/-- t2_step writes T2C, T2FIRED and IFR[5] alone. -/
theorem t2Step_eq :
    x.t2Step n = { x with
      t2c := (x.t2Step n).t2c, t2fired := (x.t2Step n).t2fired, ifr := x.ifr ||| t2Flags x n } := by
  rcases t2Step_cases x n with ⟨h5, h⟩ | ⟨h5, hd, h⟩ | ⟨h5, hd, hf, h⟩ | ⟨h5, hd, hf, h⟩
  · rw [h, t2Flags, if_neg fun hc => ne_true_of_eq_false hc.1 h5, BitVec.or_zero]
  · rw [h, t2Flags, if_neg fun hc => hd.not_ge hc.2.1, BitVec.or_zero]
  · rw [h, t2Flags, if_pos ⟨h5, hd, hf⟩]
  · rw [h, t2Flags, if_neg fun hc => ne_true_of_eq_false hc.2.2 hf, BitVec.or_zero]

/-- t2_step reads nothing that t1_step writes. -/
theorem t2Step_of_timer1 (c : Count) (f : Bool) (m : Flags) :
    (({ x with t1c := c, t1fired := f, ifr := m } : Via).t2Step n).t2c = (x.t2Step n).t2c ∧
    (({ x with t1c := c, t1fired := f, ifr := m } : Via).t2Step n).t2fired = (x.t2Step n).t2fired := by
  simp only [Via.t2Step]
  split_ifs <;> exact ⟨rfl, rfl⟩

/-- What TICK n leaves (R190): each timer as its own step leaves it, the remembered lines as the lines are, and
the flags of the four events. -/
theorem ticked_eq :
    x.ticked n = { x with
      t1c := (x.t1Step n).t1c, t1fired := (x.t1Step n).t1fired
      t2c := (x.t2Step n).t2c, t2fired := (x.t2Step n).t2fired
      ca1Prev := x.ca1, cb1Prev := x.cb1
      ifr := x.ifr ||| t1Flags x n ||| t2Flags x n ||| ca1Flags x ||| cb1Flags x } := by
  obtain ⟨hc, hf⟩ := t2Step_of_timer1 x n (x.t1Step n).t1c (x.t1Step n).t1fired (x.ifr ||| t1Flags x n)
  rw [Via.ticked, edgeStep_eq, t1Step_eq, t2Step_eq, hc, hf]
  rfl

/-! ### The flags left: each timer and each line has its own flag, and the rest stay -/

theorem ticked_ifr_t1 : (x.ticked n).ifr.getLsbD 6 = (x.t1Step n).ifr.getLsbD 6 := by
  rw [ticked_eq, t1Step_eq]
  simp only [BitVec.getLsbD_or, t2Flags, ca1Flags, cb1Flags, getLsbD_ite_zero, flagT2, flagCa1, flagCb1,
    BitVec.reduceGetLsb, Bool.and_false, Bool.or_false]

theorem ticked_ifr_t2 : (x.ticked n).ifr.getLsbD 5 = (x.t2Step n).ifr.getLsbD 5 := by
  rw [ticked_eq, t2Step_eq]
  simp only [BitVec.getLsbD_or, t1Flags, ca1Flags, cb1Flags, getLsbD_ite_zero, flagT1, flagCa1, flagCb1,
    BitVec.reduceGetLsb, Bool.and_false, Bool.or_false]

theorem ticked_ifr_ca1 : (x.ticked n).ifr.getLsbD 1 =
    (x.ifr.getLsbD 1 || decide (x.ca1 ≠ x.ca1Prev ∧ x.ca1 = x.pcr.getLsbD 0)) := by
  rw [ticked_eq]
  simp only [BitVec.getLsbD_or, t1Flags, t2Flags, ca1Flags, cb1Flags, getLsbD_ite_zero, flagT1, flagT2,
    flagCa1, flagCb1, BitVec.reduceGetLsb, Bool.and_false, Bool.and_true, Bool.or_false]

theorem ticked_ifr_cb1 : (x.ticked n).ifr.getLsbD 4 =
    (x.ifr.getLsbD 4 || decide (x.cb1 ≠ x.cb1Prev ∧ x.cb1 = x.pcr.getLsbD 4)) := by
  rw [ticked_eq]
  simp only [BitVec.getLsbD_or, t1Flags, t2Flags, ca1Flags, cb1Flags, getLsbD_ite_zero, flagT1, flagT2,
    flagCa1, flagCb1, BitVec.reduceGetLsb, Bool.and_false, Bool.and_true, Bool.or_false]

theorem ticked_ifr_of_not_tickFlags {i : Nat} (hi : tickFlags.getLsbD i = false) :
    (x.ticked n).ifr.getLsbD i = x.ifr.getLsbD i := by
  simp only [tickFlags, BitVec.getLsbD_or, Bool.or_eq_false_iff] at hi
  obtain ⟨⟨⟨h1, h2⟩, hcb1⟩, hca1⟩ := hi
  simp [ticked_eq, t1Flags, t2Flags, ca1Flags, cb1Flags, getLsbD_ite_zero, h1, h2, hcb1, hca1]

theorem ticked_ifr_and_not_tickFlags :
    (x.ticked n).ifr &&& ~~~tickFlags = x.ifr &&& ~~~tickFlags := by
  refine BitVec.eq_of_getLsbD_eq fun i _ => ?_
  cases hi : tickFlags.getLsbD i with
  | true => simp [hi]
  | false => simp [hi, ticked_ifr_of_not_tickFlags x n hi]

end Ticked

section Counts

/-! ### The 16-bit value of an exact count (R66, R190) -/

theorem toNat_ofInt_count (d : Int) : ((BitVec.ofInt 16 d).toNat : Int) = d % 65536 := by
  rw [BitVec.toNat_ofInt]
  omega

/-- A count that stays above zero is held exactly. -/
theorem toNat_ofInt_countDown_of_pos {c : Count} {n : Nat} (hd : 0 < countDown c n) :
    ((BitVec.ofInt 16 (countDown c n)).toNat : Int) = countDown c n := by
  have hlt : countDown c n < 65536 := by unfold countDown; omega
  rw [toNat_ofInt_count, Int.emod_eq_of_lt hd.le hlt]

end Counts

/-- TICK n replaces one VIA by what `Via.ticked` leaves of it, and returns its interrupt summary. -/
theorem exec_tick (v : ViaId) (n : BitVec 12) (s : State) :
    exec (.tick v n) s = .next (s.callReturns v
      (.bit ((s.via v).ticked n.toNat).irqPending) ((s.via v).ticked n.toNat)) :=
  rfl

/-- Settles O22: Timer 1 is left as t1_step leaves it, whose four cases are the four clauses. -/
theorem tickStepsTimer1 : Obligations.TickStepsTimer1 := by
  intro v n s _
  refine ⟨_, exec_tick v n s, ?_⟩
  rintro x y d rfl rfl rfl
  rw [via_callReturns_same, ticked_ifr_t1, ticked_eq]
  refine ⟨?counts, ?reloads, ?expires, ?wraps⟩
  case counts =>
    intro hd
    rw [t1Step_of_pos hd]
    exact ⟨toNat_ofInt_countDown_of_pos hd, rfl, rfl⟩
  case reloads =>
    intro hd h6
    rw [t1Step_of_freeRun hd h6]
    exact ⟨toNat_ofInt_count _, rfl, getLsbD_or_flagT1 _⟩
  case expires =>
    intro hd h6 hf
    rw [t1Step_of_oneShot hd h6 hf]
    exact ⟨toNat_ofInt_count _, rfl, getLsbD_or_flagT1 _⟩
  case wraps =>
    intro hd h6 hf
    rw [t1Step_of_fired hd h6 hf]
    exact ⟨toNat_ofInt_count _, hf, rfl⟩

/-- Settles O23: Timer 2 is left as t2_step leaves it, whose four cases are the four clauses. -/
theorem tickStepsTimer2 : Obligations.TickStepsTimer2 := by
  intro v n s _
  refine ⟨_, exec_tick v n s, ?_⟩
  rintro x y d rfl rfl rfl
  rw [via_callReturns_same, ticked_ifr_t2, ticked_eq]
  refine ⟨?held, ?counts, ?expires, ?wraps⟩
  case held =>
    intro h5
    rw [t2Step_of_held h5]
    exact ⟨rfl, rfl, rfl⟩
  case counts =>
    intro h5 hd
    rw [t2Step_of_pos h5 hd]
    exact ⟨toNat_ofInt_countDown_of_pos hd, rfl, rfl⟩
  case expires =>
    intro h5 hd hf
    rw [t2Step_of_oneShot h5 hd hf]
    exact ⟨toNat_ofInt_count _, rfl, getLsbD_or_flagT2 _⟩
  case wraps =>
    intro h5 hd hf
    rw [t2Step_of_fired h5 hd hf]
    exact ⟨toNat_ofInt_count _, hf, rfl⟩

/-- Settles O24: the remembered lines and the flags of CA1 and CB1 by `ticked_eq`; no event of a TICK has the
flag of CA2 or CB2. -/
theorem tickDetectsEdges : Obligations.TickDetectsEdges := by
  intro v n s _
  refine ⟨_, exec_tick v n s, ?_⟩
  rintro x y rfl rfl
  rw [via_callReturns_same, ticked_ifr_ca1, ticked_ifr_cb1,
    ticked_ifr_of_not_tickFlags (i := 0) _ _ rfl, ticked_ifr_of_not_tickFlags (i := 3) _ _ rfl, ticked_eq]
  refine ⟨rfl, rfl, ?ca1Set, ?ca1Kept, ?cb1Set, ?cb1Kept, rfl, rfl, rfl, rfl⟩
  case ca1Set | cb1Set =>
    intro hchange hlevel
    rw [decide_eq_true ⟨hchange, hlevel⟩, Bool.or_true]
  case ca1Kept | cb1Kept =>
    intro hedge
    rw [decide_eq_false hedge, Bool.or_false]

/-- Settles O25: the result by R42's form of IRQ_PENDING, the frame by `ticked_eq`; 0b0001101 masks the flags
no TICK can set. -/
theorem tickReturnsTheSummary : Obligations.TickReturnsTheSummary := by
  intro v n s _
  refine ⟨_, exec_tick v n s, ?_⟩
  rintro x y rfl rfl
  rw [via_callReturns_same]
  refine ⟨?result, ?frame, ?flags, rfl⟩
  case result => rw [State.callReturns, irqPending_eq]
  case frame => rw [ticked_eq]
  case flags => exact ticked_ifr_and_not_tickFlags _ _

end Sys2Proof.Proofs

/-! PROOFS of the family 45_via_lines_and_reset: what the line calls, the port calls and RESET return and leave
(R210 to R219). Each of them is a host event (R235), so one lemma says what all of them do. -/

namespace Sys2Proof.Proofs

open Sys2Proof Sys2Proof.Machine

section LineCalls

variable (v : ViaId) (l : Line) (p : Port) (b : Bool) (d : Byte) (s : State)

/-! ### The word of a line or port call, by its line or port (R93) -/

/-- The fields of a word that carries a line value, with the seven zero bits above the value split off. -/
theorem lineWord_lineValue (op : BitVec 4) :
    lineWord op l (lineValue b) = op ++ 0#2 ++ l.bits ++ 0#7 ++ BitVec.ofBool b := by
  rw [lineWord, lineValue, BitVec.append_assoc (x₁ := op ++ 0#2 ++ l.bits), BitVec.cast_eq]

theorem encode_setLineInstr :
    encode (setLineInstr v b l) =
      .call v (4#4 ++ 0#2 ++ l.bits ++ 0#7 ++ BitVec.ofBool b) := by
  rw [← lineWord_lineValue]
  cases l <;> rfl

theorem encode_getLineInstr : encode (getLineInstr v l) = .call v (lineWord 6#4 l 0#8) := by
  cases l <;> rfl

theorem encode_setPortInstr : encode (setPortInstr v d p) = .call v (portWord 5#4 p d) := by
  cases p <;> rfl

theorem encode_getPortInstr : encode (getPortInstr v p) = .call v (portWord 7#4 p 0#8) := by
  cases p <;> rfl

/-! ### The outcome of a host event, by its kind -/

/-- The operation of a host event does what the event does (R235). -/
theorem exec_toInstr (e : HostEvent) : exec e.toInstr s = .next (e.apply s) := by
  cases e with
  | setLine v l b => cases l <;> rfl
  | setPort v p d => cases p <;> rfl
  | reset v => rfl
  | getLine v l => cases l <;> rfl
  | getPort v p => cases p <;> rfl

/-- SET_LINE (R210) returns nothing and replaces one VIA by what `Via.setLine` leaves. -/
theorem exec_setLineInstr :
    exec (setLineInstr v b l) s =
      .next { s.setVia v ((s.via v).setLine l b) with result := .none } :=
  exec_toInstr s (.setLine v l b)

/-- SET_PORT (R212) returns nothing and replaces one VIA by what `Via.setPort` leaves. -/
theorem exec_setPortInstr :
    exec (setPortInstr v d p) s =
      .next { s.setVia v ((s.via v).setPort p d) with result := .none } :=
  exec_toInstr s (.setPort v p d)

/-- RESET (R218) returns nothing and replaces one VIA by the canonical one. -/
theorem exec_reset : exec (.reset v) s = .next { s.setVia v Via.zero with result := .none } :=
  exec_toInstr s (.reset v)

/-- GET_LINE (R214) only returns the line. -/
theorem exec_getLineInstr :
    exec (getLineInstr v l) s = .next { s with result := .bit ((s.via v).line l) } := by
  have h := exec_toInstr s (.getLine v l)
  rwa [HostEvent.toInstr, HostEvent.apply, State.getLine, State.callReturns, setVia_self] at h

/-- GET_PORT (R216) only returns the port. -/
theorem exec_getPortInstr :
    exec (getPortInstr v p) s = .next { s with result := .byte ((s.via v).port p) } := by
  have h := exec_toInstr s (.getPort v p)
  rwa [HostEvent.toInstr, HostEvent.apply, State.getPort, State.callReturns, setVia_self] at h

end LineCalls

/-- Settles O28: the word and the outcome of SET_LINE at each of the four lines. -/
theorem setLineDrivesOneLine : Obligations.SetLineDrivesOneLine := by
  intro v b s
  exact ⟨encode_setLineInstr v .ca1 b, exec_setLineInstr v .ca1 b s,
    encode_setLineInstr v .ca2 b, exec_setLineInstr v .ca2 b s,
    encode_setLineInstr v .cb1 b, exec_setLineInstr v .cb1 b s,
    encode_setLineInstr v .cb2 b, exec_setLineInstr v .cb2 b s⟩

/-- Settles O29: the word and the outcome of SET_PORT at both ports. -/
theorem setPortDrivesOnePort : Obligations.SetPortDrivesOnePort := by
  intro v d s
  exact ⟨encode_setPortInstr v .a d, exec_setPortInstr v .a d s,
    encode_setPortInstr v .b d, exec_setPortInstr v .b d s⟩

/-- Settles O30: the word and the outcome of GET_LINE at each of the four lines, and of GET_PORT at both
ports. -/
theorem gettersReturnAndChangeNothing : Obligations.GettersReturnAndChangeNothing := by
  intro v s
  exact ⟨encode_getLineInstr v .ca1, exec_getLineInstr v .ca1 s,
    encode_getLineInstr v .ca2, exec_getLineInstr v .ca2 s,
    encode_getLineInstr v .cb1, exec_getLineInstr v .cb1 s,
    encode_getLineInstr v .cb2, exec_getLineInstr v .cb2 s,
    encode_getPortInstr v .a, exec_getPortInstr v .a s,
    encode_getPortInstr v .b, exec_getPortInstr v .b s⟩

/-- Settles O31: the outcome of RESET, with the fields of the canonical VIA written out. -/
theorem resetZeroesOneInstance : Obligations.ResetZeroesOneInstance := by
  intro v s
  exact ⟨rfl, exec_reset v s⟩

end Sys2Proof.Proofs

/-! PROOFS of the family 46_tick_protocol: the drain (R233), the keyboard push (R236) and the interrupt request
(R237). -/

namespace Sys2Proof.Proofs

open Sys2Proof Sys2Proof.Machine

section Drain

variable (s : State) {e : Entry} (q : List Entry)

/-! ### The drain, entry by entry (R233) -/

theorem applyEntry_of_mapped {v : ViaId} {r : Reg} (h : ioDecode s.setup e.addr = some (v, r)) :
    s.applyEntry e = s.setVia v ((s.via v).writeReg r e.data) := by
  rw [State.applyEntry, h]

theorem applyEntry_of_unmapped (h : ioDecode s.setup e.addr = none) : s.applyEntry e = s := by
  rw [State.applyEntry, h]

@[simp] theorem applyEntry_mbox (e : Entry) : (s.applyEntry e).mbox = s.mbox := by
  obtain h | ⟨v, r, -, h⟩ := applyEntry_cases s e
  · rw [h]
  · rw [h, setVia_mbox]

/-- An entry is applied alike whatever waits in the mailbox. -/
theorem applyEntry_with_mbox (e : Entry) :
    ({ s with mbox := q } : State).applyEntry e = { s.applyEntry e with mbox := q } := by
  cases hd : ioDecode s.setup e.addr with
  | none => rw [applyEntry_of_unmapped s hd, applyEntry_of_unmapped { s with mbox := q } hd]
  | some p =>
    obtain ⟨v, r⟩ := p
    rw [applyEntry_of_mapped s hd, applyEntry_of_mapped { s with mbox := q } hd]
    cases v <;> rfl

variable {s q}

/-- The drain applies the oldest entry, then drains the rest. -/
theorem drain_cons (h : s.mbox = e :: q) :
    s.drain = (({ s with mbox := q } : State).applyEntry e).drain := by
  simp only [State.drain, h, List.foldl_cons, applyEntry_with_mbox]

end Drain

/-- Settles O38: the drain of an empty mailbox, one entry applied by its decode, and the drain's frame. -/
theorem drainAppliesOldestFirst : Obligations.DrainAppliesOldestFirst := by
  refine ⟨fun s h => drain_nil h, fun s e q h => ⟨fun v r hd => ?mapped, fun hd => ?unmapped, ?empty⟩⟩
  case mapped =>
    have hentry := applyEntry_of_mapped { s with mbox := q } hd
    exact (drain_cons h).trans (congrArg State.drain hentry)
  case unmapped =>
    have hentry := applyEntry_of_unmapped { s with mbox := q } hd
    exact (drain_cons h).trans (congrArg State.drain hentry)
  case empty =>
    obtain ⟨-, -, hempty, -⟩ := drain_frame s
    exact hempty

section Keyboard

/-- A bit of the OR of the selected rows, the rows being numbered from `r`. -/
theorem getLsbD_orRows (sel : Byte) (j : Nat) (rows : List Byte) (r : Nat) :
    (orRows sel r rows).getLsbD j = true ↔
      ∃ (k : Nat) (h : k < rows.length),
        sel.getLsbD (r + k) = true ∧ (rows[k]'h).getLsbD j = true := by
  induction rows generalizing r with
  | nil => simp [orRows]
  | cons row rest ih =>
    have hfirst : (if sel.getLsbD r then row else 0#8).getLsbD j = true ↔
        sel.getLsbD r = true ∧ row.getLsbD j = true := by
      split <;> simp [*]
    rw [orRows, BitVec.getLsbD_or, Bool.or_eq_true, hfirst, ih]
    constructor
    · rintro (hrow | ⟨k, hk, hsel, hbit⟩)
      · exact ⟨0, Nat.zero_lt_succ _, hrow⟩
      · exact ⟨k + 1, Nat.succ_lt_succ hk, by rwa [← Nat.add_assoc, Nat.add_right_comm], hbit⟩
    · rintro ⟨k, hk, hsel, hbit⟩
      cases k with
      | zero => exact .inl ⟨hsel, hbit⟩
      | succ k =>
        exact .inr ⟨k, Nat.lt_of_succ_lt_succ hk,
          by rwa [← Nat.add_assoc, Nat.add_right_comm] at hsel, hbit⟩

/-- The select port names a row by a 1, or by a 0 when the selection is active-low (R236). -/
theorem getLsbD_selected (low : Bool) (sel : Byte) {r : Nat} (hr : r < 8) :
    (if low then ~~~sel else sel).getLsbD r = true ↔ sel.getLsbD r = !low := by
  cases low <;> simp [hr]

theorem getLsbD_scan (m : KeyMatrix) (low : Bool) (sel : Byte) (j : Nat) :
    (m.scan low sel).getLsbD j = true ↔
      ∃ (r : Nat) (h : r < 8), sel.getLsbD r = !low ∧ (m.rows[r]'h).getLsbD j = true := by
  have hlen : m.rows.toList.length = 8 := Vector.length_toList
  rw [KeyMatrix.scan, getLsbD_orRows]
  constructor
  · rintro ⟨r, hr, hsel, hbit⟩
    have hr8 : r < 8 := hlen ▸ hr
    rw [Nat.zero_add] at hsel
    exact ⟨r, hr8, (getLsbD_selected low sel hr8).1 hsel, by simpa using hbit⟩
  · rintro ⟨r, hr, hsel, hbit⟩
    refine ⟨r, hlen.symm ▸ hr, ?_, by simpa using hbit⟩
    rw [Nat.zero_add]
    exact (getLsbD_selected low sel hr).2 hsel

variable (s : State) (m : KeyMatrix)

theorem kbdStep_of_enabled (h : s.setup.kbdEnable = true) : s.kbdStep m = s.kbdPush m :=
  if_pos h

theorem kbdStep_of_disabled (h : s.setup.kbdEnable = false) : s.kbdStep m = s :=
  if_neg (ne_true_of_eq_false h)

/-- Neither the drain nor the keyboard push writes the setup (R12). -/
theorem kbdStep_drain_setup : (s.drain.kbdStep m).setup = s.setup := by
  obtain ⟨-, -, -, -, -, -, hkbd, -⟩ := kbdStep_frame s.drain m
  obtain ⟨-, -, -, -, -, -, hdrain, -⟩ := drain_frame s
  exact hkbd.trans hdrain

/-- The dispatch phase leaves the first VIA as its TICK after the drain and the push leaves it (R232). -/
theorem dispatchPhase_via1 (n : Nat) :
    (s.dispatchPhase m n).via1 = ((s.drain.kbdStep m).via1.tick n).2 := rfl

/-- The second VIA is ticked when the setup has one (R8, R232). -/
theorem dispatchPhase_via2 (n : Nat) :
    (s.dispatchPhase m n).via2 =
      if s.setup.viaCount = 2 then ((s.drain.kbdStep m).via2.tick n).2
      else (s.drain.kbdStep m).via2 := by
  rw [← kbdStep_drain_setup s m]
  rfl

end Keyboard

/-- Settles O43: the bits of the byte pushed, the two cases of KBD_ENABLE, and the TICKs of the dispatch phase. -/
theorem keyboardPushReturnsTheSelectedRows : Obligations.KeyboardPushReturnsTheSelectedRows := by
  refine ⟨fun m low sel j _ => ?bits, fun s m h => ?enabled, fun s m h => ?disabled,
    fun s m n => ⟨?via1, ?via2⟩⟩
  case bits => exact getLsbD_scan m low sel j
  case enabled => exact kbdStep_of_enabled s m h
  case disabled => exact kbdStep_of_disabled s m h
  case via1 => exact dispatchPhase_via1 s m n
  case via2 => exact dispatchPhase_via2 s m n

section OperationFrames

/-! ### What an operation leaves of IRQ and of the setup -/

/-- An operation is a bus cycle, or it is a call and does no more than replace one VIA and return a result
(R90). -/
theorem exec_cases (i : Instr) (s : State) :
    (∃ a, i = .busRd a) ∨ (∃ a d, i = .busWr a d) ∨
      ∃ v r x, exec i s = .next (s.callReturns v r x) := by
  cases i with
  | busRd a => exact .inl ⟨a, rfl⟩
  | busWr a d => exact .inr (.inl ⟨a, d, rfl⟩)
  | _ => exact .inr (.inr ⟨_, _, _, rfl⟩)

theorem busRd_irq_setup (s : State) (a : Addr) :
    (s.busRd a).irq = s.irq ∧ (s.busRd a).setup = s.setup := by
  obtain ⟨-, h⟩ | ⟨-, -, h⟩ | ⟨v, r, -, -, h⟩ := busRd_cases s a
  · rw [h]; exact ⟨rfl, rfl⟩
  · rw [h]; exact ⟨rfl, rfl⟩
  · rw [h]; exact ⟨callReturns_irq .., callReturns_setup ..⟩

theorem busWr_irq_setup (s : State) (a : Addr) (d : Byte) :
    (s.busWr a d).irq = s.irq ∧ (s.busWr a d).setup = s.setup := by
  obtain ⟨-, h⟩ | ⟨-, h⟩ | ⟨-, -, h⟩ | ⟨_, -, -, h⟩ := busWrStore_cases s a d <;>
    rw [State.busWr, h] <;> exact ⟨rfl, rfl⟩

/-- No operation drives IRQ or writes the setup (R12, R237). -/
theorem exec_irq_setup {i : Instr} {s t : State} (h : exec i s = .next t) :
    t.irq = s.irq ∧ t.setup = s.setup := by
  obtain ⟨a, rfl⟩ | ⟨a, d, rfl⟩ | ⟨v, r, x, hcall⟩ := exec_cases i s
  · cases h; exact busRd_irq_setup s a
  · cases h; exact busWr_irq_setup s a d
  · cases hcall.symm.trans h
    exact ⟨callReturns_irq .., callReturns_setup ..⟩

end OperationFrames

section InterruptRequest

/-! ### The level (R42, R237) -/

theorem irqPending_iff (x : Via) :
    x.irqPending = true ↔ ∃ i, x.ifr.getLsbD i = true ∧ x.ier.getLsbD i = true := by
  rw [Via.irqPending, bne_iff_ne]
  constructor
  · intro hne
    by_contra hnone
    refine hne (BitVec.eq_of_getLsbD_eq fun i _ => ?_)
    rw [BitVec.getLsbD_and, BitVec.getLsbD_zero]
    exact Bool.eq_false_iff.2 fun hboth => hnone ⟨i, Bool.and_eq_true_iff.1 hboth⟩
  · rintro ⟨i, hflag, henable⟩ hzero
    have hbit : (x.ifr &&& x.ier).getLsbD i = true := by
      rw [BitVec.getLsbD_and, hflag, henable, Bool.and_self]
    simp [hzero] at hbit

theorem irqLevel_iff (s : State) :
    s.irqLevel = true ↔ ∃ v i, isTicked s.setup v = true ∧ (s.via v).ifr.getLsbD i = true ∧
      (s.via v).ier.getLsbD i = true := by
  have hvia : s.irqLevel = true ↔ ∃ v, isTicked s.setup v = true ∧ (s.via v).irqPending = true := by
    rw [State.irqLevel, Bool.or_eq_true, Bool.and_eq_true]
    constructor
    · rintro (h1 | ⟨hcount, h2⟩)
      · exact ⟨.via1, rfl, h1⟩
      · exact ⟨.via2, hcount, h2⟩
    · rintro ⟨v, hticked, hpending⟩
      cases v with
      | via1 => exact .inl hpending
      | via2 => exact .inr ⟨hticked, hpending⟩
  simp only [hvia, irqPending_iff, exists_and_left]

/-! ### IRQ after what a step can take -/

variable {s t : State} {m : KeyMatrix}

theorem runInput_of_step {e : Input} {rest : List Input} (hi : s.inputs = e :: rest)
    (h : step s = .next t) : runInput e { s with inputs := rest } = .next t := by
  obtain ⟨hcheck, -⟩ := step_next_cases h
  exact (step_of_inputs hcheck hi).symm.trans h

/-- A bus word is its cycle, then what follows the bus phase of a tick (R230). -/
theorem runInput_bus_next {w : BusWord} (h : runInput (.bus w m) s = .next t) :
    ∃ u, exec (decodeBus w) s = .next u ∧ t = u.afterBusPhase m := by
  obtain ⟨u, hu⟩ := exec_answers_next (decodeBus w) s
  rw [runInput, decode, runDecoded, hu, completeTick] at h
  cases h
  exact ⟨u, hu, rfl⟩

theorem runInput_dispatch_next (h : runInput (.dispatch m) s = .next t) : t = s.dispatchStep m := by
  rw [runInput, runDispatch] at h
  split at h
  · cases h; rfl
  · cases h

theorem runInput_call_next {v : ViaId} {w : OpWord} (h : runInput (.call v w) s = .next t) :
    ∃ i, exec i s = .next t := by
  rw [runInput, decode] at h
  cases hd : decodeViaop v w with
  | ok i => rw [hd] at h; exact ⟨i, h⟩
  | error e => rw [hd] at h; cases h

/-- A lock-step tick ends with a dispatch phase, which drives IRQ to its level (R230, R237). -/
theorem afterBusPhase_irq_of_lockstep (h : s.setup.lockstep = true) :
    (s.afterBusPhase m).irq = (s.afterBusPhase m).irqLevel := by
  rw [State.afterBusPhase, if_pos h]
  exact dispatchPhase_irq s m 1

/-- A relaxed BUS_STEP has no dispatch phase (R241). -/
theorem afterBusPhase_irq_of_relaxed (h : s.setup.lockstep = false) :
    (s.afterBusPhase m).irq = s.irq := by
  rw [State.afterBusPhase, if_neg (ne_true_of_eq_false h), countTick_irq]

theorem dispatchStep_irq (s : State) (m : KeyMatrix) :
    (s.dispatchStep m).irq = (s.dispatchStep m).irqLevel :=
  dispatchPhase_irq s m s.dispatchAdvance

end InterruptRequest

/-- Settles O42: the steps with a dispatch phase drive IRQ to its level, and an operation alone keeps it. -/
theorem irqIsTheLevelOfEnabledFlags : Obligations.IrqIsTheLevelOfEnabledFlags := by
  refine ⟨fun s t w m rest hi h => ?level, fun s t v w rest hi h => ?call,
    fun s t w m rest hl hi h => ?relaxed⟩
  case level =>
    have hlevel : t.irq = t.irqLevel := by
      obtain ⟨hl, hi⟩ | hi := hi
      · obtain ⟨u, hu, rfl⟩ := runInput_bus_next (runInput_of_step hi h)
        obtain ⟨-, hsetup⟩ := exec_irq_setup hu
        have hlockstep : u.setup.lockstep = true := by rw [hsetup]; exact hl
        exact afterBusPhase_irq_of_lockstep hlockstep
      · rw [runInput_dispatch_next (runInput_of_step hi h)]
        exact dispatchStep_irq _ m
    exact hlevel ▸ irqLevel_iff t
  case call =>
    obtain ⟨i, hexec⟩ := runInput_call_next (runInput_of_step hi h)
    obtain ⟨hirq, -⟩ := exec_irq_setup hexec
    exact hirq
  case relaxed =>
    obtain ⟨u, hu, rfl⟩ := runInput_bus_next (runInput_of_step hi h)
    obtain ⟨hirq, hsetup⟩ := exec_irq_setup hu
    have hrelaxed : u.setup.lockstep = false := by rw [hsetup]; exact hl
    exact (afterBusPhase_irq_of_relaxed hrelaxed).trans hirq

end Sys2Proof.Proofs

/-! PROOFS of the family 60_exceptions: every operation completes (R250), and which setups are refused (R263). -/

namespace Sys2Proof.Proofs

open Sys2Proof Sys2Proof.Machine

section InputOutcomes

/-! ### The outcome of a bus word and of a call (R230, R235) -/

variable (s : State)

/-- Every bus word is a cycle, which completes, and with it the tick it belongs to. -/
theorem runInput_bus_answers_next (w : BusWord) (m : KeyMatrix) :
    ∃ t, runInput (.bus w m) s = .next t := by
  obtain ⟨u, hu⟩ := exec_answers_next (decodeBus w) s
  refine ⟨u.afterBusPhase m, ?_⟩
  rw [runInput, decode, runDecoded, hu, completeTick]

/-- A call whose word the decoder accepts is its operation alone. -/
theorem runInput_call_of_ok {v : ViaId} {w : OpWord} {i : Instr} (h : decodeViaop v w = .ok i) :
    runInput (.call v w) s = exec i s := by
  rw [runInput, decode, h, runDecoded]

end InputOutcomes

/-- Settles O50: the outcome of each operation, and of the words that carry one; there is no fault to answer. -/
theorem everyOperationCompletes : Obligations.EveryOperationCompletes := by
  refine ⟨exec_answers_next, fun s f => ?fault, fun s v w rest hc hi => ?call,
    fun s w m rest hc hi => ?bus⟩
  case fault => cases f
  case call =>
    rw [step_of_inputs hc hi]
    cases hd : decodeViaop v w with
    | ok i =>
      rw [runInput_call_of_ok _ hd]
      exact .inl (exec_answers_next i _)
    | error e => exact .inr ⟨e, rfl⟩
  case bus =>
    rw [step_of_inputs hc hi]
    exact runInput_bus_answers_next _ w m

section SetupCheck

variable {p : Setup}

/-! ### The checks of a setup (R263) -/

/-- A check that names a failure when `c` holds passes when `c` fails and the checks after it pass. -/
theorem ite_some_eq_none_iff {α : Type} {c : Prop} [Decidable c] {f : α} {o : Option α} :
    (if c then some f else o) = none ↔ ¬c ∧ o = none := by
  by_cases h : c <;> simp [h]

theorem check_eq_none_iff :
    p.check = none ↔
      ¬(p.viaCount ≠ 1 ∧ p.viaCount ≠ 2) ∧ ¬p.via1Block = p.via2Block ∧ ¬p.mailboxCapacity < 1 ∧
      ¬(p.kbdEnable = true ∧ p.kbdReturnPort = p.kbdSelectPort) ∧
      ¬(p.kbdEnable = true ∧ p.kbdViaTooHigh = true) := by
  simp only [Setup.check, ite_some_eq_none_iff, and_true]

/-- With one or two instances, KBD_VIA is within VIA_COUNT unless it is the second of one. -/
theorem not_kbdViaTooHigh_iff (h : p.viaCount = 1 ∨ p.viaCount = 2) :
    ¬p.kbdViaTooHigh = true ↔ (p.kbdVia = .via2 → p.viaCount = 2) := by
  rw [Setup.kbdViaTooHigh, Bool.and_eq_true, beq_iff_eq, beq_iff_eq, not_and]
  refine imp_congr_right fun _ => ?_
  omega

/-- A setup that R263 refuses has no run (R251). -/
theorem step_of_setupFailure {s : State} {f : SetupFailure} (h : s.setup.check = some f) :
    step s = .refused (.setupFailure f) := by
  rw [step, runStep, h]

end SetupCheck

/-- Settles O52: the checks one by one, KBD_VIA's under a VIA_COUNT of 1 or 2, and the step that meets a failure. -/
theorem refusedSetupsHaveNoRun : Obligations.RefusedSetupsHaveNoRun := by
  refine ⟨fun p => ?accepted, fun s f h => step_of_setupFailure h⟩
  case accepted =>
    have hcount : ¬(p.viaCount ≠ 1 ∧ p.viaCount ≠ 2) ↔ p.viaCount = 1 ∨ p.viaCount = 2 := by omega
    rw [check_eq_none_iff, hcount]
    refine and_congr_right fun h => and_congr_right' (and_congr Nat.not_lt (and_congr not_and ?_))
    exact not_and.trans (imp_congr_right fun _ => not_kbdViaTooHigh_iff h)

end Sys2Proof.Proofs

/-! PROOFS that the later families share: the forms an operation can take (R90, R92, R93), and the form of a word
of VIAOP. -/

namespace Sys2Proof.Proofs

open Sys2Proof Sys2Proof.Machine

section Forms

/-- The forms of the operations: the two bus cycles (R90), and the eight kinds of call of R93. A proof about every
operation has one case for each form. -/
inductive InstrForm : Instr → Prop where
  | busRd (a : Addr) : InstrForm (.busRd a)
  | busWr (a : Addr) (d : Byte) : InstrForm (.busWr a d)
  | readReg (v : ViaId) (r : Reg) : InstrForm (readInstr v r)
  | writeReg (v : ViaId) (d : Byte) (r : Reg) : InstrForm (writeInstr v d r)
  | tick (v : ViaId) (n : BitVec 12) : InstrForm (.tick v n)
  | reset (v : ViaId) : InstrForm (.reset v)
  | setLine (v : ViaId) (b : Bool) (l : Line) : InstrForm (setLineInstr v b l)
  | getLine (v : ViaId) (l : Line) : InstrForm (getLineInstr v l)
  | setPort (v : ViaId) (d : Byte) (p : Port) : InstrForm (setPortInstr v d p)
  | getPort (v : ViaId) (p : Port) : InstrForm (getPortInstr v p)

/-- Every operation of the table has one of the forms. -/
theorem instrForm : ∀ i : Instr, InstrForm i
  | .busRd a => .busRd a
  | .busWr a d => .busWr a d
  | .rdOrbIrb v => .readReg v .orbIrb
  | .rdOraIra v => .readReg v .oraIra
  | .rdDdrb v => .readReg v .ddrb
  | .rdDdra v => .readReg v .ddra
  | .rdT1cL v => .readReg v .t1cL
  | .rdT1cH v => .readReg v .t1cH
  | .rdT1lL v => .readReg v .t1lL
  | .rdT1lH v => .readReg v .t1lH
  | .rdT2cL v => .readReg v .t2cL
  | .rdT2cH v => .readReg v .t2cH
  | .rdSr v => .readReg v .sr
  | .rdAcr v => .readReg v .acr
  | .rdPcr v => .readReg v .pcr
  | .rdIfr v => .readReg v .ifr
  | .rdIer v => .readReg v .ier
  | .rdOraIraNh v => .readReg v .oraIraNh
  | .wrOrb v d => .writeReg v d .orbIrb
  | .wrOra v d => .writeReg v d .oraIra
  | .wrDdrb v d => .writeReg v d .ddrb
  | .wrDdra v d => .writeReg v d .ddra
  | .wrT1cL v d => .writeReg v d .t1cL
  | .wrT1cH v d => .writeReg v d .t1cH
  | .wrT1lL v d => .writeReg v d .t1lL
  | .wrT1lH v d => .writeReg v d .t1lH
  | .wrT2cL v d => .writeReg v d .t2cL
  | .wrT2cH v d => .writeReg v d .t2cH
  | .wrSr v d => .writeReg v d .sr
  | .wrAcr v d => .writeReg v d .acr
  | .wrPcr v d => .writeReg v d .pcr
  | .wrIfr v d => .writeReg v d .ifr
  | .wrIer v d => .writeReg v d .ier
  | .wrOraNh v d => .writeReg v d .oraIraNh
  | .tick v n => .tick v n
  | .reset v => .reset v
  | .setCa1 v b => .setLine v b .ca1
  | .setCa2 v b => .setLine v b .ca2
  | .setCb1 v b => .setLine v b .cb1
  | .setCb2 v b => .setLine v b .cb2
  | .setPa v d => .setPort v d .a
  | .setPb v d => .setPort v d .b
  | .getCa1 v => .getLine v .ca1
  | .getCa2 v => .getLine v .ca2
  | .getCb1 v => .getLine v .cb1
  | .getCb2 v => .getLine v .cb2
  | .getPa v => .getPort v .a
  | .getPb v => .getPort v .b

end Forms

section OpWords

/-! ### The fields of a VIAOP word (R93): an operation class, a nibble and a low byte -/

variable (op f : BitVec 4) (d : Byte)

/-- A VIAOP word is its class, its nibble and its low byte. -/
theorem opWord_eq_fields (w : OpWord) :
    w = w.extractLsb' 12 4 ++ w.extractLsb' 8 4 ++ w.extractLsb' 0 8 := by
  have upper : w.extractLsb' 12 4 ++ w.extractLsb' 8 4 = w.extractLsb' 8 8 :=
    BitVec.extractLsb'_append_extractLsb'_eq_extractLsb' rfl
  have whole : w.extractLsb' 8 8 ++ w.extractLsb' 0 8 = w :=
    BitVec.extractLsb'_append_extractLsb'
  rw [upper, whole]

/-- A field above the low byte is a field of the upper byte. -/
theorem extractLsb'_upper (h : BitVec 8) (i k : Nat) :
    (h ++ d).extractLsb' (i + 8) k = h.extractLsb' i k := by
  refine BitVec.eq_of_getLsbD_eq fun j hj => ?_
  simp only [BitVec.getLsbD_extractLsb', BitVec.getLsbD_append, Nat.add_right_comm i 8 j]
  simp

theorem opWord_class : (op ++ f ++ d).extractLsb' 12 4 = op := 
  (extractLsb'_upper d (op ++ f) 4 4).trans BitVec.extractLsb'_append_eq_left

theorem opWord_nibble : (op ++ f ++ d).extractLsb' 8 4 = f :=
  (extractLsb'_upper d (op ++ f) 0 4).trans BitVec.extractLsb'_append_eq_right

theorem opWord_data : (op ++ f ++ d).extractLsb' 0 8 = d :=
  BitVec.extractLsb'_append_eq_right

theorem opWord_count : (op ++ f ++ d).extractLsb' 0 12 = f ++ d := by
  rw [BitVec.append_assoc, BitVec.cast_eq]
  exact BitVec.extractLsb'_append_eq_right

/-- A field within the nibble is a field of the nibble alone. -/
theorem opWord_nibbleField {i k : Nat} (h : i + k ≤ 4) :
    (op ++ f ++ d).extractLsb' (i + 8) k = f.extractLsb' i k :=
  (extractLsb'_upper d (op ++ f) i k).trans (BitVec.extractLsb'_append_eq_of_add_le h)

theorem opWord_portBit : (op ++ f ++ d).getLsbD 8 = f.getLsbD 0 :=
  BitVec.getLsbD_append.trans (BitVec.getLsbD_append (x := op) (i := 0))

theorem opWord_valueBit : (op ++ f ++ d).getLsbD 0 = d.getLsbD 0 :=
  BitVec.getLsbD_append

theorem opWord_valueHigh : (op ++ f ++ d).extractLsb' 1 7 = d.extractLsb' 1 7 :=
  BitVec.extractLsb'_append_eq_of_add_le (by decide)

end OpWords

end Sys2Proof.Proofs

/-! PROOFS of the family other, encoding: the decoder is the inverse of the encoder, and the opcode table holds
the words the decoder accepts (R91, R93, R97, R101). -/

namespace Sys2Proof.Proofs

open Sys2Proof Sys2Proof.Machine

section Codes

/-! ### The codes of lines, ports and values (R93) -/

theorem Line.bits_ofBits (b : BitVec 2) : (Line.ofBits b).bits = b := by revert b; decide

theorem Port.bit_ofBit (b : Bool) : (Port.ofBit b).bit = b := by cases b <;> rfl

/-- The nibble of a line call: two zero bits and the line. -/
theorem lineWord_eq (op : BitVec 4) (l : Line) (d : Byte) :
    lineWord op l d = op ++ (0#2 ++ l.bits) ++ d := by
  rw [lineWord, BitVec.append_assoc (x₁ := op), BitVec.cast_eq]

/-- The nibble of a port call: three zero bits and the port. -/
theorem portWord_eq (op : BitVec 4) (p : Port) (d : Byte) :
    portWord op p d = op ++ (0#3 ++ BitVec.ofBool p.bit) ++ d := by
  rw [portWord, BitVec.append_assoc (x₁ := op), BitVec.cast_eq]

theorem lineValue_high (b : Bool) : (lineValue b).extractLsb' 1 7 = 0#7 := by cases b <;> rfl

theorem lineValue_bit (b : Bool) : (lineValue b).getLsbD 0 = b := by cases b <;> rfl

theorem encode_setLineInstr_lineWord (v : ViaId) (b : Bool) (l : Line) :
    encode (setLineInstr v b l) = .call v (lineWord 4#4 l (lineValue b)) := by
  cases l <;> rfl

end Codes

section DecodeOfEncode

/-! ### The decoder's answer to the word of each kind of call (R93) -/

theorem decodeViaop_of_writeReg (v : ViaId) {w : OpWord} (h : (w.extractLsb' 12 4).toNat = 0) :
    decodeViaop v w = .ok (writeInstr v (w.extractLsb' 0 8) (Reg.ofBits (w.extractLsb' 8 4))) := by
  simp only [decodeViaop, h]

/-- The class of a word, as the decoder reads it. -/
theorem opWord_class_toNat (op f : BitVec 4) (d : Byte) :
    ((op ++ f ++ d).extractLsb' 12 4).toNat = op.toNat :=
  congrArg BitVec.toNat (opWord_class op f d)

variable (v : ViaId)

theorem decodeViaop_readWord (r : Reg) :
    decodeViaop v (regWord 1#4 r 0#8) = .ok (readInstr v r) := by
  rw [regWord, decodeViaop_of_readReg v (opWord_class_toNat ..), opWord_data, opWord_nibble,
    Reg.ofBits_bits, if_pos rfl]

theorem decodeViaop_writeWord (d : Byte) (r : Reg) :
    decodeViaop v (regWord 0#4 r d) = .ok (writeInstr v d r) := by
  rw [regWord, decodeViaop_of_writeReg v (opWord_class_toNat ..), opWord_data, opWord_nibble,
    Reg.ofBits_bits]

theorem decodeViaop_tickWord {n : BitVec 12} (hn : n ≠ 0#12) :
    decodeViaop v (2#4 ++ n) = .ok (.tick v n) := by
  have hclass : ((2#4 ++ n : OpWord).extractLsb' 12 4).toNat = 2 :=
    congrArg BitVec.toNat BitVec.extractLsb'_append_eq_left
  have hcount : (2#4 ++ n : OpWord).extractLsb' 0 12 = n := BitVec.extractLsb'_append_eq_right
  rw [decodeViaop_of_tick v hclass, hcount, if_neg hn]

theorem lineWord_fields (op : BitVec 4) (l : Line) (d : Byte) :
    (lineWord op l d).extractLsb' 10 2 = 0#2 ∧ (lineWord op l d).extractLsb' 8 2 = l.bits := by
  rw [lineWord_eq]
  exact ⟨(opWord_nibbleField op _ d (i := 2) (by decide)).trans BitVec.extractLsb'_append_eq_left,
    (opWord_nibbleField op _ d (i := 0) (by decide)).trans BitVec.extractLsb'_append_eq_right⟩

theorem portWord_fields (op : BitVec 4) (p : Port) (d : Byte) :
    (portWord op p d).extractLsb' 9 3 = 0#3 ∧ (portWord op p d).getLsbD 8 = p.bit := by
  rw [portWord_eq]
  refine ⟨(opWord_nibbleField op _ d (i := 1) (by decide)).trans BitVec.extractLsb'_append_eq_left, ?_⟩
  rw [opWord_portBit]
  cases p <;> rfl

theorem decodeViaop_setLineWord (b : Bool) (l : Line) :
    decodeViaop v (lineWord 4#4 l (lineValue b)) = .ok (setLineInstr v b l) := by
  obtain ⟨hzero, hline⟩ := lineWord_fields 4#4 l (lineValue b)
  have hclass : ((lineWord 4#4 l (lineValue b)).extractLsb' 12 4).toNat = 4 := by
    rw [lineWord_eq]; exact opWord_class_toNat ..
  have hhigh : (lineWord 4#4 l (lineValue b)).extractLsb' 1 7 = 0#7 := by
    rw [lineWord_eq, opWord_valueHigh, lineValue_high]
  have hbit : (lineWord 4#4 l (lineValue b)).getLsbD 0 = b := by
    rw [lineWord_eq, opWord_valueBit, lineValue_bit]
  rw [decodeViaop_of_setLine v hclass, if_pos ⟨hzero, hhigh⟩, hbit, hline, Line.ofBits_bits]

theorem decodeViaop_getLineWord (l : Line) :
    decodeViaop v (lineWord 6#4 l 0#8) = .ok (getLineInstr v l) := by
  obtain ⟨hzero, hline⟩ := lineWord_fields 6#4 l 0#8
  have hclass : ((lineWord 6#4 l 0#8).extractLsb' 12 4).toNat = 6 := by
    rw [lineWord_eq]; exact opWord_class_toNat ..
  have hdata : (lineWord 6#4 l 0#8).extractLsb' 0 8 = 0#8 := by
    rw [lineWord_eq, opWord_data]
  rw [decodeViaop_of_getLine v hclass, if_pos ⟨hzero, hdata⟩, hline, Line.ofBits_bits]

theorem decodeViaop_setPortWord (d : Byte) (p : Port) :
    decodeViaop v (portWord 5#4 p d) = .ok (setPortInstr v d p) := by
  obtain ⟨hzero, hport⟩ := portWord_fields 5#4 p d
  have hclass : ((portWord 5#4 p d).extractLsb' 12 4).toNat = 5 := by
    rw [portWord_eq]; exact opWord_class_toNat ..
  have hdata : (portWord 5#4 p d).extractLsb' 0 8 = d := by
    rw [portWord_eq, opWord_data]
  rw [decodeViaop_of_setPort v hclass, if_pos hzero, hdata, hport, Port.ofBit_bit]

theorem decodeViaop_getPortWord (p : Port) :
    decodeViaop v (portWord 7#4 p 0#8) = .ok (getPortInstr v p) := by
  obtain ⟨hzero, hport⟩ := portWord_fields 7#4 p 0#8
  have hclass : ((portWord 7#4 p 0#8).extractLsb' 12 4).toNat = 7 := by
    rw [portWord_eq]; exact opWord_class_toNat ..
  have hdata : (portWord 7#4 p 0#8).extractLsb' 0 8 = 0#8 := by
    rw [portWord_eq, opWord_data]
  rw [decodeViaop_of_getPort v hclass, if_pos ⟨hzero, hdata⟩, hport, Port.ofBit_bit]

end DecodeOfEncode

/-- Settles O1: the decoder's answer to the word of each form of operation. -/
theorem decodeOfEncodeIsTheOperation : Obligations.DecodeOfEncodeIsTheOperation := by
  intro i hwf
  cases instrForm i with
  | busRd a => exact congrArg Decoded.ok (decodeBus_append 1#1 a 0#8)
  | busWr a d => exact congrArg Decoded.ok (decodeBus_append 0#1 a d)
  | readReg v r => rw [encode_readInstr]; exact decodeViaop_readWord v r
  | writeReg v d r => rw [encode_writeInstr]; exact decodeViaop_writeWord v d r
  | tick v n => exact decodeViaop_tickWord v (by simpa [Instr.wf] using hwf)
  | reset v => rfl
  | setLine v b l => rw [encode_setLineInstr_lineWord]; exact decodeViaop_setLineWord v b l
  | getLine v l => rw [encode_getLineInstr]; exact decodeViaop_getLineWord v l
  | setPort v d p => rw [encode_setPortInstr]; exact decodeViaop_setPortWord v d p
  | getPort v p => rw [encode_getPortInstr]; exact decodeViaop_getPortWord v p

/-- Settles O3: each word evaluated by the decoder. -/
theorem writtenOutWordsDecode : Obligations.WrittenOutWordsDecode := by
  unfold Obligations.WrittenOutWordsDecode
  decide

section EncodeOfDecode

/-! ### The word of the operation the decoder answers: no bit of an accepted word is dropped (R93, R97) -/

/-- A bit of a word, as the field of width 1. -/
theorem ofBool_getLsbD_eq (w : OpWord) (k : Nat) :
    BitVec.ofBool (w.getLsbD k) = w.extractLsb' k 1 := by
  refine BitVec.eq_of_getLsbD_eq fun i hi => ?_
  obtain rfl : i = 0 := by omega
  simp

/-- A word by the number of its class. -/
theorem opWord_eq_of_class {w : OpWord} {op : BitVec 4} (h : (w.extractLsb' 12 4).toNat = op.toNat) :
    w = op ++ w.extractLsb' 8 4 ++ w.extractLsb' 0 8 := by
  rw [← BitVec.eq_of_toNat_eq h]
  exact opWord_eq_fields w

/-- The nibble and the low byte of a word are its low twelve bits. -/
theorem opWord_eq_of_class_count {w : OpWord} {op : BitVec 4}
    (h : (w.extractLsb' 12 4).toNat = op.toNat) : w = op ++ w.extractLsb' 0 12 := by
  have whole : w.extractLsb' 12 4 ++ w.extractLsb' 0 12 = w := BitVec.extractLsb'_append_extractLsb'
  rw [← BitVec.eq_of_toNat_eq h, whole]

/-- A word whose nibble has two zero bits is a line word. -/
theorem opWord_eq_lineWord {w : OpWord} {op : BitVec 4} (h : (w.extractLsb' 12 4).toNat = op.toNat)
    (hzero : w.extractLsb' 10 2 = 0#2) :
    w = lineWord op (Line.ofBits (w.extractLsb' 8 2)) (w.extractLsb' 0 8) := by
  have hnibble : w.extractLsb' 10 2 ++ w.extractLsb' 8 2 = w.extractLsb' 8 4 :=
    BitVec.extractLsb'_append_extractLsb'_eq_extractLsb' rfl
  rw [lineWord_eq, Line.bits_ofBits, ← hzero, hnibble]
  exact opWord_eq_of_class h

/-- A word whose nibble has three zero bits is a port word. -/
theorem opWord_eq_portWord {w : OpWord} {op : BitVec 4} (h : (w.extractLsb' 12 4).toNat = op.toNat)
    (hzero : w.extractLsb' 9 3 = 0#3) :
    w = portWord op (Port.ofBit (w.getLsbD 8)) (w.extractLsb' 0 8) := by
  have hnibble : w.extractLsb' 9 3 ++ w.extractLsb' 8 1 = w.extractLsb' 8 4 :=
    BitVec.extractLsb'_append_extractLsb'_eq_extractLsb' rfl
  rw [portWord_eq, Port.bit_ofBit, ofBool_getLsbD_eq, ← hzero, hnibble]
  exact opWord_eq_of_class h

/-- A byte whose upper seven bits are zero is a line value. -/
theorem byte_eq_lineValue {w : OpWord} (h : w.extractLsb' 1 7 = 0#7) :
    w.extractLsb' 0 8 = lineValue (w.getLsbD 0) := by
  have whole : w.extractLsb' 1 7 ++ w.extractLsb' 0 1 = w.extractLsb' 0 8 :=
    BitVec.extractLsb'_append_extractLsb'_eq_extractLsb' rfl
  rw [lineValue, ofBool_getLsbD_eq, ← h, whole]

/-- An operation that is answered under a condition is answered where the condition holds. -/
theorem ok_of_ite_error {c : Prop} [Decidable c] {i j : Instr} {e : DecodeError}
    (h : (if c then Decoded.ok j else .error e) = .ok i) : c ∧ j = i := by
  split at h
  · exact ⟨‹c›, Decoded.ok.inj h⟩
  · cases h

theorem readInstr_wf (v : ViaId) (r : Reg) : (readInstr v r).wf = true := by cases r <;> rfl

theorem writeInstr_wf (v : ViaId) (d : Byte) (r : Reg) : (writeInstr v d r).wf = true := by
  cases r <;> rfl

theorem setLineInstr_wf (v : ViaId) (b : Bool) (l : Line) : (setLineInstr v b l).wf = true := by
  cases l <;> rfl

theorem getLineInstr_wf (v : ViaId) (l : Line) : (getLineInstr v l).wf = true := by cases l <;> rfl

theorem setPortInstr_wf (v : ViaId) (d : Byte) (p : Port) : (setPortInstr v d p).wf = true := by
  cases p <;> rfl

theorem getPortInstr_wf (v : ViaId) (p : Port) : (getPortInstr v p).wf = true := by cases p <;> rfl

/-- An accepted word is the word of the operation answered, and that operation is well-formed: one case for each
class of R93. -/
theorem encode_of_decodeViaop {v : ViaId} {w : OpWord} {i : Instr} (h : decodeViaop v w = .ok i) :
    i.wf = true ∧ encode i = .call v w := by
  match hop : (w.extractLsb' 12 4).toNat with
  | 0 =>
    rw [decodeViaop_of_writeReg v hop] at h
    cases h
    rw [encode_writeInstr, regWord, Reg.bits_ofBits, ← opWord_eq_of_class hop]
    exact ⟨writeInstr_wf .., rfl⟩
  | 1 =>
    rw [decodeViaop_of_readReg v hop] at h
    obtain ⟨hdata, rfl⟩ := ok_of_ite_error h
    rw [encode_readInstr, regWord, Reg.bits_ofBits, ← hdata, ← opWord_eq_of_class hop]
    exact ⟨readInstr_wf .., rfl⟩
  | 2 =>
    rw [decodeViaop_of_tick v hop, ← ite_not] at h
    obtain ⟨hn, rfl⟩ := ok_of_ite_error h
    rw [encode, ← opWord_eq_of_class_count hop]
    exact ⟨by simpa [Instr.wf] using hn, rfl⟩
  | 3 =>
    rw [decodeViaop_of_reset v hop] at h
    obtain ⟨hn, rfl⟩ := ok_of_ite_error h
    rw [encode, ← hn, ← opWord_eq_of_class_count hop]
    exact ⟨rfl, rfl⟩
  | 4 =>
    rw [decodeViaop_of_setLine v hop] at h
    obtain ⟨⟨hzero, hhigh⟩, rfl⟩ := ok_of_ite_error h
    rw [encode_setLineInstr_lineWord, ← byte_eq_lineValue hhigh, ← opWord_eq_lineWord hop hzero]
    exact ⟨setLineInstr_wf .., rfl⟩
  | 5 =>
    rw [decodeViaop_of_setPort v hop] at h
    obtain ⟨hzero, rfl⟩ := ok_of_ite_error h
    rw [encode_setPortInstr, ← opWord_eq_portWord hop hzero]
    exact ⟨setPortInstr_wf .., rfl⟩
  | 6 =>
    rw [decodeViaop_of_getLine v hop] at h
    obtain ⟨⟨hzero, hdata⟩, rfl⟩ := ok_of_ite_error h
    rw [encode_getLineInstr, ← hdata, ← opWord_eq_lineWord hop hzero]
    exact ⟨getLineInstr_wf .., rfl⟩
  | 7 =>
    rw [decodeViaop_of_getPort v hop] at h
    obtain ⟨⟨hzero, hdata⟩, rfl⟩ := ok_of_ite_error h
    rw [encode_getPortInstr, ← hdata, ← opWord_eq_portWord hop hzero]
    exact ⟨getPortInstr_wf .., rfl⟩
  | k + 8 =>
    rw [decodeViaop_of_reservedClass v (by omega)] at h
    cases h

end EncodeOfDecode

section Rows

/-! ### The rows of the opcode table and the words in them (R101) -/

/-- Every operation's word is in the row of its mnemonic. -/
theorem encodeRow : ∀ i : Instr, Laws.EncodeRow.Statement i
  | .busRd a => Laws.EncodeRow.busRd a
  | .busWr a d => Laws.EncodeRow.busWr a d
  | .rdOrbIrb v => Laws.EncodeRow.rdOrbIrb v
  | .rdOraIra v => Laws.EncodeRow.rdOraIra v
  | .rdDdrb v => Laws.EncodeRow.rdDdrb v
  | .rdDdra v => Laws.EncodeRow.rdDdra v
  | .rdT1cL v => Laws.EncodeRow.rdT1cL v
  | .rdT1cH v => Laws.EncodeRow.rdT1cH v
  | .rdT1lL v => Laws.EncodeRow.rdT1lL v
  | .rdT1lH v => Laws.EncodeRow.rdT1lH v
  | .rdT2cL v => Laws.EncodeRow.rdT2cL v
  | .rdT2cH v => Laws.EncodeRow.rdT2cH v
  | .rdSr v => Laws.EncodeRow.rdSr v
  | .rdAcr v => Laws.EncodeRow.rdAcr v
  | .rdPcr v => Laws.EncodeRow.rdPcr v
  | .rdIfr v => Laws.EncodeRow.rdIfr v
  | .rdIer v => Laws.EncodeRow.rdIer v
  | .rdOraIraNh v => Laws.EncodeRow.rdOraIraNh v
  | .wrOrb v d => Laws.EncodeRow.wrOrb v d
  | .wrOra v d => Laws.EncodeRow.wrOra v d
  | .wrDdrb v d => Laws.EncodeRow.wrDdrb v d
  | .wrDdra v d => Laws.EncodeRow.wrDdra v d
  | .wrT1cL v d => Laws.EncodeRow.wrT1cL v d
  | .wrT1cH v d => Laws.EncodeRow.wrT1cH v d
  | .wrT1lL v d => Laws.EncodeRow.wrT1lL v d
  | .wrT1lH v d => Laws.EncodeRow.wrT1lH v d
  | .wrT2cL v d => Laws.EncodeRow.wrT2cL v d
  | .wrT2cH v d => Laws.EncodeRow.wrT2cH v d
  | .wrSr v d => Laws.EncodeRow.wrSr v d
  | .wrAcr v d => Laws.EncodeRow.wrAcr v d
  | .wrPcr v d => Laws.EncodeRow.wrPcr v d
  | .wrIfr v d => Laws.EncodeRow.wrIfr v d
  | .wrIer v d => Laws.EncodeRow.wrIer v d
  | .wrOraNh v d => Laws.EncodeRow.wrOraNh v d
  | .tick v n => Laws.EncodeRow.tick v n
  | .reset v => Laws.EncodeRow.reset v
  | .setCa1 v b => Laws.EncodeRow.setCa1 v b
  | .setCa2 v b => Laws.EncodeRow.setCa2 v b
  | .setCb1 v b => Laws.EncodeRow.setCb1 v b
  | .setCb2 v b => Laws.EncodeRow.setCb2 v b
  | .setPa v d => Laws.EncodeRow.setPa v d
  | .setPb v d => Laws.EncodeRow.setPb v d
  | .getCa1 v => Laws.EncodeRow.getCa1 v
  | .getCa2 v => Laws.EncodeRow.getCa2 v
  | .getCb1 v => Laws.EncodeRow.getCb1 v
  | .getCb2 v => Laws.EncodeRow.getCb2 v
  | .getPa v => Laws.EncodeRow.getPa v
  | .getPb v => Laws.EncodeRow.getPb v

/-- A word whose upper bits a row fixes is those bits over its own lower ones. -/
theorem eq_append_of_and_mask {m k : Nat} {w : BitVec (m + k)} {h : BitVec m}
    (hw : w &&& (BitVec.allOnes m ++ 0#k) = h ++ 0#k) : w = h ++ w.extractLsb' 0 k := by
  have whole : w.extractLsb' k m ++ w.extractLsb' 0 k = w := BitVec.extractLsb'_append_extractLsb'
  rw [← whole, Laws.append_and_mask] at hw
  have hupper : w.extractLsb' k m = h := by
    simpa only [BitVec.extractLsb'_append_eq_left] using congrArg (BitVec.extractLsb' k m) hw
  rw [← hupper, whole]

variable {name : String} {w : OpWord}

theorem eq_of_holds_wordRow {p : OpWord} (h : (⟨name, p, 0xFFFF#16⟩ : TableRow 16).holds w = true) :
    w = p := by
  have hw : w &&& BitVec.allOnes 16 = p := eq_of_beq h
  rwa [BitVec.and_allOnes] at hw

theorem eq_of_holds_byteRow {p : BitVec 8}
    (h : (⟨name, p ++ 0#8, 0xFF00#16⟩ : TableRow 16).holds w = true) : w = p ++ w.extractLsb' 0 8 :=
  eq_append_of_and_mask (m := 8) (k := 8) (eq_of_beq h)

theorem eq_of_holds_bitRow {p : BitVec 15}
    (h : (⟨name, p ++ 0#1, 0xFFFE#16⟩ : TableRow 16).holds w = true) :
    w = p ++ BitVec.ofBool (w.getLsbD 0) := by
  rw [ofBool_getLsbD_eq]
  exact eq_append_of_and_mask (m := 15) (k := 1) (eq_of_beq h)

theorem eq_of_holds_countRow {p : BitVec 4}
    (h : (⟨name, p ++ 0#12, 0xF000#16⟩ : TableRow 16).holds w = true) : w = p ++ w.extractLsb' 0 12 :=
  eq_append_of_and_mask (m := 4) (k := 12) (eq_of_beq h)

/-! ### The rows by the forms of the calls -/

/-- The register indices in the order of R92. -/
def allRegs : List Reg :=
  [.orbIrb, .oraIra, .ddrb, .ddra, .t1cL, .t1cH, .t1lL, .t1lH, .t2cL, .t2cH, .sr, .acr, .pcr, .ifr, .ier,
   .oraIraNh]

/-- The lines in the order of their codes (R93). -/
def allLines : List Line := [.ca1, .ca2, .cb1, .cb2]

/-- The ports in the order of their codes (R93). -/
def allPorts : List Port := [.a, .b]

theorem readTable_eq : readTable =
    allRegs.map fun r => ⟨(readInstr .via1 r).mnemonic, regWord 1#4 r 0#8, 0xFFFF#16⟩ := rfl

theorem writeTable_eq : writeTable =
    allRegs.map fun r => ⟨(writeInstr .via1 0#8 r).mnemonic, regWord 0#4 r 0#8, 0xFF00#16⟩ := rfl

theorem lineTable_eq : lineTable =
    [⟨"TICK", 2#4 ++ 0#12, 0xF000#16⟩, ⟨"RESET", 3#4 ++ 0#12, 0xFFFF#16⟩] ++
    (allLines.map fun l => ⟨(setLineInstr .via1 false l).mnemonic,
      4#4 ++ 0#2 ++ l.bits ++ 0#7 ++ 0#1, 0xFFFE#16⟩) ++
    (allPorts.map fun p => ⟨(setPortInstr .via1 0#8 p).mnemonic, portWord 5#4 p 0#8, 0xFF00#16⟩) ++
    (allLines.map fun l => ⟨(getLineInstr .via1 l).mnemonic, lineWord 6#4 l 0#8, 0xFFFF#16⟩) ++
    (allPorts.map fun p => ⟨(getPortInstr .via1 p).mnemonic, portWord 7#4 p 0#8, 0xFFFF#16⟩) := rfl

/-- A word in a row of a well-formed operation decodes to an operation of that row. -/
theorem decodeViaop_of_encode {v : ViaId} {i : Instr} {name : String} (hwf : i.wf = true)
    (henc : encode i = .call v w) (hname : i.mnemonic = name) :
    ∃ i, decodeViaop v w = .ok i ∧ i.mnemonic = name := by
  have hdec : decode (encode i) = .ok i := decodeOfEncodeIsTheOperation i hwf
  rw [henc] at hdec
  exact ⟨i, hdec, hname⟩

variable {v : ViaId} {row : TableRow 16}

theorem decodeViaop_of_readTable (hr : row ∈ readTable) (hw : row.holds w = true) :
    ∃ i, decodeViaop v w = .ok i ∧ i.mnemonic = row.mnemonic := by
  rw [readTable_eq] at hr
  obtain ⟨r, -, rfl⟩ := List.mem_map.1 hr
  rw [eq_of_holds_wordRow hw]
  exact decodeViaop_of_encode (readInstr_wf v r) (encode_readInstr v r) (by cases r <;> rfl)

theorem decodeViaop_of_writeTable (hr : row ∈ writeTable) (hw : row.holds w = true) :
    ∃ i, decodeViaop v w = .ok i ∧ i.mnemonic = row.mnemonic := by
  rw [writeTable_eq] at hr
  obtain ⟨r, -, rfl⟩ := List.mem_map.1 hr
  rw [eq_of_holds_byteRow hw]
  exact decodeViaop_of_encode (writeInstr_wf v _ r) (encode_writeInstr v _ r) (by cases r <;> rfl)

/-- The rows of TICK, RESET, the lines and the ports, TICK with a count that is not 0. -/
theorem decodeViaop_of_lineTable (hr : row ∈ lineTable) (hw : row.holds w = true)
    (hn : row.mnemonic = "TICK" → w.extractLsb' 0 12 ≠ 0#12) :
    ∃ i, decodeViaop v w = .ok i ∧ i.mnemonic = row.mnemonic := by
  simp only [lineTable_eq, List.mem_append, List.mem_map, List.mem_cons, List.not_mem_nil, or_false]
    at hr
  obtain ((((rfl | rfl) | ⟨l, -, rfl⟩) | ⟨p, -, rfl⟩) | ⟨l, -, rfl⟩) | ⟨p, -, rfl⟩ := hr
  · rw [eq_of_holds_countRow hw]
    exact ⟨_, decodeViaop_tickWord v (hn rfl), rfl⟩
  · rw [eq_of_holds_wordRow hw]
    exact ⟨.reset v, rfl, rfl⟩
  · rw [eq_of_holds_bitRow hw]
    exact decodeViaop_of_encode (setLineInstr_wf v _ l) (encode_setLineInstr v l _) (by cases l <;> rfl)
  · rw [eq_of_holds_byteRow hw]
    exact decodeViaop_of_encode (setPortInstr_wf v _ p) (encode_setPortInstr v p _) (by cases p <;> rfl)
  · rw [eq_of_holds_wordRow hw]
    exact decodeViaop_of_encode (getLineInstr_wf v l) (encode_getLineInstr v l) (by cases l <;> rfl)
  · rw [eq_of_holds_wordRow hw]
    exact decodeViaop_of_encode (getPortInstr_wf v p) (encode_getPortInstr v p) (by cases p <;> rfl)

end Rows

section Overlap

/-! ### No word is in two rows (R101) -/

/-- Two rows of a table fix some bit differently. -/
def TableRow.apart {n : Nat} (r r' : TableRow n) : Bool :=
  r.mask &&& r'.mask &&& (r.pattern ^^^ r'.pattern) != 0#n

/-- Rows that fix a bit differently hold no word in common. -/
theorem TableRow.not_both_hold {n : Nat} {r r' : TableRow n} {w : BitVec n}
    (ha : TableRow.apart r r' = true) (h : r.holds w = true) (h' : r'.holds w = true) : False := by
  rw [TableRow.apart, bne_iff_ne, ← eq_of_beq h, ← eq_of_beq h'] at ha
  refine ha (BitVec.eq_of_getLsbD_eq fun i hi => ?_)
  simp only [BitVec.getLsbD_and, BitVec.getLsbD_xor, BitVec.getLsbD_zero]
  cases w.getLsbD i <;> cases r.mask.getLsbD i <;> cases r'.mask.getLsbD i <;> rfl

theorem viaopTable_apart : viaopTable.Pairwise fun r r' => TableRow.apart r r' = true := by decide

theorem busTable_apart : busTable.Pairwise fun r r' => TableRow.apart r r' = true := by decide

/-- In a table whose rows are apart, the row of a word is one. -/
theorem row_unique {n : Nat} {table : List (TableRow n)}
    (ht : table.Pairwise fun r r' => TableRow.apart r r' = true) {w : BitVec n} {r r' : TableRow n}
    (hr : r ∈ table) (hr' : r' ∈ table) (h : r.holds w = true) (h' : r'.holds w = true) : r = r' := by
  have hapart : table.Pairwise fun r r' => ¬(r.holds w = true ∧ r'.holds w = true) :=
    ht.imp fun ha ⟨h, h'⟩ => TableRow.not_both_hold ha h h'
  have : Std.Symm fun r r' : TableRow n => ¬(r.holds w = true ∧ r'.holds w = true) :=
    ⟨fun _ _ hn hboth => hn hboth.symm⟩
  by_contra hne
  exact hapart.forall hr hr' hne ⟨h, h'⟩

end Overlap

/-- Every BUS word is in the row of its direction bit (R91, R101). -/
theorem busTable_total (w : BusWord) :
    ∃ r ∈ busTable, r.holds w = true ∧ r.mnemonic = (decodeBus w).mnemonic := by
  have hmask (b : BitVec 1) (x : BitVec 24) : (b ++ x : BusWord) &&& 0x1000000#25 = b ++ 0#24 :=
    Laws.append_and_mask b x
  rw [busWord_eq_fields w, decodeBus_append]
  generalize w.extractLsb' 24 1 = b
  obtain rfl | rfl : b = 1#1 ∨ b = 0#1 := by revert b; decide
  · exact ⟨⟨"BUS_RD", 0x1000000#25, 0x1000000#25⟩, by decide, beq_iff_eq.2 (hmask ..), rfl⟩
  · exact ⟨⟨"BUS_WR", 0x0000000#25, 0x1000000#25⟩, by decide, beq_iff_eq.2 (hmask ..), rfl⟩

/-- Settles O2: an accepted word is the word of its operation, which is in its row; the words of a row, table by
table, decode; and the rows of a table are apart. -/
theorem decoderAcceptsExactlyTheTableRows : Obligations.DecoderAcceptsExactlyTheTableRows := by
  refine ⟨fun v w i h => ?accepted, fun v w r hr hw hn => ?inRow, busTable_total,
    fun w r r' hr hr' => row_unique viaopTable_apart hr hr',
    fun w r r' hr hr' => row_unique busTable_apart hr hr'⟩
  case accepted =>
    obtain ⟨hwf, henc⟩ := encode_of_decodeViaop h
    have hrow := encodeRow i hwf
    rw [henc] at hrow
    obtain ⟨r, hr, hname, hholds⟩ := hrow
    exact ⟨hwf, r, hr, hholds, hname⟩
  case inRow =>
    obtain (hr | hr) | hr : (r ∈ readTable ∨ r ∈ writeTable) ∨ r ∈ lineTable := by
      simpa only [viaopTable, List.mem_append] using hr
    · exact decodeViaop_of_readTable hr hw
    · exact decodeViaop_of_writeTable hr hw
    · exact decodeViaop_of_lineTable hr hw hn

end Sys2Proof.Proofs

/-! PROOFS of the family other, operations: what an operation can leave of each VIA and of the rest of the state
(R24, R163, R180, R219). -/

namespace Sys2Proof.Proofs

open Sys2Proof Sys2Proof.Machine

section RegisterFrames

/-! ### What READ_REG, WRITE_REG and the setters leave of a VIA, field by field -/

variable (x : Via) (r : Reg) (d : Byte)

theorem dropFlags_zero : x.dropFlags 0#7 = x := by
  rw [Via.dropFlags, BitVec.not_zero, BitVec.and_allOnes]

/-- READ_REG leaves its VIA but for the flags it acknowledges (R69). -/
theorem readReg_snd : (x.readReg r).2 = x.dropFlags (readAckMask r) := by
  cases r with
  | orbIrb | oraIra | t1cL | t2cL => rfl
  | _ => exact (dropFlags_zero x).symm

theorem readAckMask_ne_zero {r : Reg} (h : readAckMask r ≠ 0#7) :
    r = .orbIrb ∨ r = .oraIra ∨ r = .t1cL ∨ r = .t2cL := by
  cases r with
  | orbIrb | oraIra | t1cL | t2cL => simp
  | _ => exact absurd rfl h

/-- The flags WRITE_REG clears (R131, R133, R152, R156, R160, R176). -/
def writeAckMask (d : Byte) : Reg → Flags
  | .orbIrb => ackMaskB
  | .oraIra => ackMaskA
  | .t1cH => flagT1
  | .t1lH => flagT1
  | .t2cH => flagT2
  | .ifr => mask7 d
  | _ => 0#7

theorem writeReg_flags : (x.writeReg r d).ifr = x.ifr &&& ~~~writeAckMask d r := by
  cases r with
  | orbIrb | oraIra | t1cH | t1lH | t2cH | ifr => rfl
  | _ => exact congrArg Via.ifr (dropFlags_zero x).symm

theorem writeAckMask_ne_zero {r : Reg} {d : Byte} (h : writeAckMask d r ≠ 0#7) :
    r = .ifr ∨ r = .orbIrb ∨ r = .oraIra ∨ r = .t1cH ∨ r = .t1lH ∨ r = .t2cH := by
  cases r with
  | orbIrb | oraIra | t1cH | t1lH | t2cH | ifr => simp
  | _ => exact absurd rfl h

variable {r}

theorem writeReg_enables (h : r ≠ .ier) : (x.writeReg r d).ier = x.ier := by
  cases r with
  | ier => exact absurd rfl h
  | _ => rfl

theorem writeReg_timer1 (h : r ≠ .t1cH) :
    (x.writeReg r d).t1c = x.t1c ∧ (x.writeReg r d).t1fired = x.t1fired := by
  cases r with
  | t1cH => exact absurd rfl h
  | _ => exact ⟨rfl, rfl⟩

theorem writeReg_timer2 (h : r ≠ .t2cH) :
    (x.writeReg r d).t2c = x.t2c ∧ (x.writeReg r d).t2fired = x.t2fired := by
  cases r with
  | t2cH => exact absurd rfl h
  | _ => exact ⟨rfl, rfl⟩

theorem writeReg_latch1 (h : (x.writeReg r d).t1l ≠ x.t1l) :
    r = .t1cL ∨ r = .t1cH ∨ r = .t1lL ∨ r = .t1lH := by
  cases r with
  | t1cL | t1cH | t1lL | t1lH => simp
  | _ => exact absurd rfl h

theorem writeReg_latch2 (h : r ≠ .t2cL) : (x.writeReg r d).t2l = x.t2l := by
  cases r with
  | t2cL => exact absurd rfl h
  | _ => rfl

/-- No register is the remembered value of CA2 or of CB2 (R40). -/
theorem writeReg_ca2Prev_cb2Prev (r : Reg) :
    (x.writeReg r d).ca2Prev = x.ca2Prev ∧ (x.writeReg r d).cb2Prev = x.cb2Prev := by
  cases r <;> exact ⟨rfl, rfl⟩

/-- SET_LINE writes the lines alone (R210). -/
theorem setLine_frame (l : Line) (b : Bool) :
    x.setLine l b = { x with
      ca1 := (x.setLine l b).ca1, ca2 := (x.setLine l b).ca2
      cb1 := (x.setLine l b).cb1, cb2 := (x.setLine l b).cb2 } := by
  cases l <;> rfl

/-- SET_PORT writes the ports alone (R212). -/
theorem setPort_frame (p : Port) :
    x.setPort p d = { x with pa := (x.setPort p d).pa, pb := (x.setPort p d).pb } := by
  cases p <;> rfl

end RegisterFrames

section Confinement

/-! ### A call as a function of its own VIA (R24) -/

/-- A call computes its result and the VIA it leaves from that VIA alone. -/
theorem exec_of_encode_call {i : Instr} {v : ViaId} {w : OpWord} (h : encode i = .call v w) :
    ∃ f : Via → Result × Via, ∀ s : State,
      exec i s = .next (s.callReturns v (f (s.via v)).1 (f (s.via v)).2) := by
  cases instrForm i with
  | busRd a => cases h
  | busWr a d => cases h
  | readReg u r =>
    cases (encode_readInstr u r).symm.trans h
    exact ⟨fun x => (.byte (x.readReg r).1, (x.readReg r).2), exec_readInstr v r⟩
  | writeReg u d r =>
    cases (encode_writeInstr u d r).symm.trans h
    exact ⟨fun x => (.none, x.writeReg r d), exec_writeInstr v d r⟩
  | tick u n =>
    cases h
    exact ⟨fun x => (.bit (x.ticked n.toNat).irqPending, x.ticked n.toNat), exec_tick v n⟩
  | reset u =>
    cases h
    exact ⟨fun _ => (.none, Via.zero), exec_reset v⟩
  | setLine u b l =>
    cases (encode_setLineInstr_lineWord u b l).symm.trans h
    exact ⟨fun x => (.none, x.setLine l b), exec_setLineInstr v l b⟩
  | getLine u l =>
    cases (encode_getLineInstr u l).symm.trans h
    exact ⟨fun x => (.bit (x.line l), x), fun s => exec_toInstr s (.getLine v l)⟩
  | setPort u d p =>
    cases (encode_setPortInstr u p d).symm.trans h
    exact ⟨fun x => (.none, x.setPort p d), exec_setPortInstr v p d⟩
  | getPort u p =>
    cases (encode_getPortInstr u p).symm.trans h
    exact ⟨fun x => (.byte (x.port p), x), fun s => exec_toInstr s (.getPort v p)⟩

end Confinement

/-- Settles O33: the frame of `State.callReturns`, at what the call computes from its own VIA. -/
theorem callsAreConfinedToTheirInstance : Obligations.CallsAreConfinedToTheirInstance := by
  refine ⟨fun i v w s t henc hexec => ?frame, fun i v w s s' t henc hv hexec => ?dependence⟩
  case frame =>
    obtain ⟨f, hf⟩ := exec_of_encode_call henc
    cases (hf s).symm.trans hexec
    refine ⟨fun u hu => ?_, ?_⟩
    · rw [via_callReturns, if_neg hu]
    · simp only [callReturns_mem, callReturns_pt, callReturns_mbox, callReturns_irq, callReturns_ticks,
        callReturns_dispatched, callReturns_setup, callReturns_inputs, callReturns_draws, implies_true,
        and_self]
  case dependence =>
    obtain ⟨f, hf⟩ := exec_of_encode_call henc
    cases (hf s).symm.trans hexec
    refine ⟨_, hf s', ?_, ?_⟩
    · rw [via_callReturns_same, via_callReturns_same, hv]
    · rw [callReturns_result, callReturns_result, hv]

section Outcomes

/-! ### What an operation can leave of one VIA -/

/-- The operation reads register `r` of the VIA `v`, by a call or over the bus (R92, R117). -/
def ReadsReg (s : State) (i : Instr) (v : ViaId) (r : Reg) : Prop :=
  i = readInstr v r ∨
    ∃ a, i = .busRd a ∧ classify s.pt a = .mappedIO ∧ ioDecode s.setup a = some (v, r)

/-- What an operation `i` from state `s` can leave of the VIA `v`: the VIA as it was, or what one of the six
operations on a VIA leaves. -/
inductive ViaOutcome (s : State) (i : Instr) (v : ViaId) : Via → Prop where
  | kept : ViaOutcome s i v (s.via v)
  | read (r : Reg) (h : ReadsReg s i v r) : ViaOutcome s i v ((s.via v).dropFlags (readAckMask r))
  | write (r : Reg) (d : Byte) (h : i = writeInstr v d r) : ViaOutcome s i v ((s.via v).writeReg r d)
  | tick (n : BitVec 12) (h : i = .tick v n) : ViaOutcome s i v ((s.via v).ticked n.toNat)
  | reset (h : i = .reset v) : ViaOutcome s i v Via.zero
  | setLine (l : Line) (b : Bool) : ViaOutcome s i v ((s.via v).setLine l b)
  | setPort (p : Port) (d : Byte) : ViaOutcome s i v ((s.via v).setPort p d)

variable {s t : State} {i : Instr}

/-- A call has its outcome at its own VIA, and keeps the other one. -/
theorem viaOutcome_of_callReturns {u : ViaId} {x : Via} {res : Result} (hx : ViaOutcome s i u x)
    (h : exec i s = .next (s.callReturns u res x)) (ht : exec i s = .next t) (v : ViaId) :
    ViaOutcome s i v (t.via v) := by
  cases h.symm.trans ht
  rw [via_callReturns]
  split
  case isTrue hv => rw [hv]; exact hx
  case isFalse => exact .kept

theorem viaOutcome_of_readsReg {u : ViaId} {r : Reg} (hr : ReadsReg s i u r) :
    ViaOutcome s i u ((s.via u).readReg r).2 := by
  rw [readReg_snd]
  exact .read r hr

/-- A write cycle changes no VIA: the mailbox holds the write until the drain (R113). -/
theorem busWr_via (s : State) (a : Addr) (d : Byte) (v : ViaId) : (s.busWr a d).via v = s.via v := by
  obtain ⟨-, h⟩ | ⟨-, h⟩ | ⟨-, -, h⟩ | ⟨_, -, -, h⟩ := busWrStore_cases s a d <;>
    rw [State.busWr, h] <;> cases v <;> rfl

/-- Every operation has its outcome at both VIAs. -/
theorem exec_viaOutcome (h : exec i s = .next t) (v : ViaId) : ViaOutcome s i v (t.via v) := by
  cases instrForm i with
  | busRd a =>
    obtain ⟨-, hrd⟩ | ⟨-, -, hrd⟩ | ⟨u, r, hc, hd, hrd⟩ := busRd_cases s a
    · cases (congrArg Host.Outcome.next hrd).symm.trans h
      cases v <;> exact .kept
    · cases (congrArg Host.Outcome.next hrd).symm.trans h
      cases v <;> exact .kept
    · exact viaOutcome_of_callReturns (viaOutcome_of_readsReg (.inr ⟨a, rfl, hc, hd⟩))
        (congrArg Host.Outcome.next hrd) h v
  | busWr a d =>
    cases h
    rw [busWr_via]
    exact .kept
  | readReg u r =>
    exact viaOutcome_of_callReturns (viaOutcome_of_readsReg (.inl rfl)) (exec_readInstr u r s) h v
  | writeReg u d r => exact viaOutcome_of_callReturns (.write r d rfl) (exec_writeInstr u d r s) h v
  | tick u n => exact viaOutcome_of_callReturns (.tick n rfl) (exec_tick u n s) h v
  | reset u => exact viaOutcome_of_callReturns (.reset rfl) (exec_reset u s) h v
  | setLine u b l => exact viaOutcome_of_callReturns (.setLine l b) (exec_setLineInstr u l b s) h v
  | getLine u l => exact viaOutcome_of_callReturns .kept (exec_toInstr s (.getLine u l)) h v
  | setPort u d p => exact viaOutcome_of_callReturns (.setPort p d) (exec_setPortInstr u p d s) h v
  | getPort u p => exact viaOutcome_of_callReturns .kept (exec_toInstr s (.getPort u p)) h v

end Outcomes

section FlagChanges

/-! ### Which outcomes change IER and IFR (R180) -/

variable {s : State} {i : Instr} {v : ViaId} {y : Via}

theorem ViaOutcome.enables_changed (h : ViaOutcome s i v y) (hne : y.ier ≠ (s.via v).ier) :
    i = .reset v ∨ ∃ d, i = .wrIer v d := by
  cases h with
  | kept | read => exact absurd rfl hne
  | write r d hi =>
    obtain rfl : r = .ier := by
      by_contra hr
      exact hne (writeReg_enables _ d hr)
    exact .inr ⟨d, hi⟩
  | tick => rw [ticked_eq] at hne; exact absurd rfl hne
  | reset hi => exact .inl hi
  | setLine => rw [setLine_frame] at hne; exact absurd rfl hne
  | setPort => rw [setPort_frame] at hne; exact absurd rfl hne

/-- Flags left by an acknowledge are fewer only when its mask is not 0. -/
theorem mask_ne_zero_of_cleared {f m : Flags} (h : f &&& ~~~(f &&& ~~~m) ≠ 0#7) : m ≠ 0#7 := by
  intro hm
  rw [hm, BitVec.not_zero, BitVec.and_allOnes, BitVec.and_not_self] at h
  exact h rfl

/-- A set of flags loses none to a larger one. -/
theorem and_not_eq_zero_of_or {f m : Flags} : f &&& ~~~(f ||| m) = 0#7 := by
  refine BitVec.eq_of_getLsbD_eq fun j hj => ?_
  simp only [BitVec.getLsbD_and, BitVec.getLsbD_not, BitVec.getLsbD_or, BitVec.getLsbD_zero]
  cases f.getLsbD j <;> simp

/-- An acknowledge raises no flag. -/
theorem and_and_not_eq_zero {f m : Flags} : f &&& m &&& ~~~f = 0#7 := by
  refine BitVec.eq_of_getLsbD_eq fun j hj => ?_
  simp only [BitVec.getLsbD_and, BitVec.getLsbD_not, BitVec.getLsbD_zero]
  cases f.getLsbD j <;> simp

/-- TICK adds to the flags (R191 to R193). -/
theorem ticked_ifr_eq_or (x : Via) (n : Nat) :
    (x.ticked n).ifr = x.ifr ||| (t1Flags x n ||| t2Flags x n ||| ca1Flags x ||| cb1Flags x) := by
  rw [ticked_eq]
  simp only [BitVec.or_assoc]

theorem ViaOutcome.flags_cleared (h : ViaOutcome s i v y) (hne : (s.via v).ifr &&& ~~~y.ifr ≠ 0#7) :
    i = .reset v ∨
    (∃ r, ReadsReg s i v r ∧ (r = .orbIrb ∨ r = .oraIra ∨ r = .t1cL ∨ r = .t2cL)) ∨
    ∃ r d, i = writeInstr v d r ∧
      (r = .ifr ∨ r = .orbIrb ∨ r = .oraIra ∨ r = .t1cH ∨ r = .t1lH ∨ r = .t2cH) := by
  have hself : (s.via v).ifr &&& ~~~(s.via v).ifr = 0#7 := by simp
  cases h with
  | kept => exact absurd hself hne
  | read r hr => exact .inr (.inl ⟨r, hr, readAckMask_ne_zero (mask_ne_zero_of_cleared hne)⟩)
  | write r d hi =>
    rw [writeReg_flags] at hne
    exact .inr (.inr ⟨r, d, hi, writeAckMask_ne_zero (mask_ne_zero_of_cleared hne)⟩)
  | tick => rw [ticked_ifr_eq_or] at hne; exact absurd and_not_eq_zero_of_or hne
  | reset hi => exact .inl hi
  | setLine => rw [setLine_frame] at hne; exact absurd hself hne
  | setPort => rw [setPort_frame] at hne; exact absurd hself hne

theorem ViaOutcome.flags_raised (h : ViaOutcome s i v y) (hne : y.ifr &&& ~~~(s.via v).ifr ≠ 0#7) :
    ∃ n, i = .tick v n := by
  have hself : (s.via v).ifr &&& ~~~(s.via v).ifr = 0#7 := by simp
  cases h with
  | kept => exact absurd hself hne
  | read => exact absurd and_and_not_eq_zero hne
  | write => rw [writeReg_flags] at hne; exact absurd and_and_not_eq_zero hne
  | tick n hi => exact ⟨n, hi⟩
  | reset => exact absurd (BitVec.zero_and ..) hne
  | setLine => rw [setLine_frame] at hne; exact absurd hself hne
  | setPort => rw [setPort_frame] at hne; exact absurd hself hne

end FlagChanges

/-- Settles O34: the outcomes that change IER, clear a flag or raise one, with the registers by name. -/
theorem whatChangesTheFlagsAndEnables : Obligations.WhatChangesTheFlagsAndEnables := by
  intro i v s t h
  have hout := exec_viaOutcome h v
  refine ⟨hout.enables_changed, fun hne => ?cleared, hout.flags_raised⟩
  case cleared =>
    obtain hi | ⟨r, hi | ⟨a, hi, hc, hd⟩, hr⟩ | ⟨r, d, hi, hr⟩ := hout.flags_cleared hne
    · exact .inl hi
    · obtain rfl | rfl | rfl | rfl := hr <;> simp [hi, readInstr]
    · simp [hi, hc, hd, hr]
    · obtain rfl | rfl | rfl | rfl | rfl | rfl := hr <;> simp [hi, writeInstr]

section TimerChanges

/-! ### Which outcomes change the timers (R163) -/

variable {s : State} {i : Instr} {v : ViaId} {y : Via}

theorem ViaOutcome.timer1_changed (h : ViaOutcome s i v y)
    (hne : y.t1c ≠ (s.via v).t1c ∨ y.t1fired ≠ (s.via v).t1fired) :
    i = .reset v ∨ (∃ d, i = .wrT1cH v d) ∨ ∃ n, i = .tick v n := by
  cases h with
  | kept | read => simp at hne
  | write r d hi =>
    obtain rfl : r = .t1cH := by
      by_contra hr
      obtain ⟨hcount, hfired⟩ := writeReg_timer1 (s.via v) d hr
      exact hne.elim (· hcount) (· hfired)
    exact .inr (.inl ⟨d, hi⟩)
  | tick n hi => exact .inr (.inr ⟨n, hi⟩)
  | reset hi => exact .inl hi
  | setLine => rw [setLine_frame] at hne; simp at hne
  | setPort => rw [setPort_frame] at hne; simp at hne

theorem ViaOutcome.timer2_changed (h : ViaOutcome s i v y)
    (hne : y.t2c ≠ (s.via v).t2c ∨ y.t2fired ≠ (s.via v).t2fired) :
    i = .reset v ∨ (∃ d, i = .wrT2cH v d) ∨ ∃ n, i = .tick v n := by
  cases h with
  | kept | read => simp at hne
  | write r d hi =>
    obtain rfl : r = .t2cH := by
      by_contra hr
      obtain ⟨hcount, hfired⟩ := writeReg_timer2 (s.via v) d hr
      exact hne.elim (· hcount) (· hfired)
    exact .inr (.inl ⟨d, hi⟩)
  | tick n hi => exact .inr (.inr ⟨n, hi⟩)
  | reset hi => exact .inl hi
  | setLine => rw [setLine_frame] at hne; simp at hne
  | setPort => rw [setPort_frame] at hne; simp at hne

theorem ViaOutcome.latch1_changed (h : ViaOutcome s i v y) (hne : y.t1l ≠ (s.via v).t1l) :
    i = .reset v ∨ ∃ r d, i = writeInstr v d r ∧
      (r = .t1cL ∨ r = .t1cH ∨ r = .t1lL ∨ r = .t1lH) := by
  cases h with
  | kept | read => exact absurd rfl hne
  | write r d hi => exact .inr ⟨r, d, hi, writeReg_latch1 _ d hne⟩
  | tick => rw [ticked_eq] at hne; exact absurd rfl hne
  | reset hi => exact .inl hi
  | setLine => rw [setLine_frame] at hne; exact absurd rfl hne
  | setPort => rw [setPort_frame] at hne; exact absurd rfl hne

theorem ViaOutcome.latch2_changed (h : ViaOutcome s i v y) (hne : y.t2l ≠ (s.via v).t2l) :
    i = .reset v ∨ ∃ d, i = .wrT2cL v d := by
  cases h with
  | kept | read => exact absurd rfl hne
  | write r d hi =>
    obtain rfl : r = .t2cL := by
      by_contra hr
      exact hne (writeReg_latch2 _ d hr)
    exact .inr ⟨d, hi⟩
  | tick => rw [ticked_eq] at hne; exact absurd rfl hne
  | reset hi => exact .inl hi
  | setLine => rw [setLine_frame] at hne; exact absurd rfl hne
  | setPort => rw [setPort_frame] at hne; exact absurd rfl hne

end TimerChanges

/-- Settles O35: the outcomes that change a counter, a fired flag or a latch, with the registers by name. -/
theorem whatChangesTheTimers : Obligations.WhatChangesTheTimers := by
  intro i v s t h
  have hout := exec_viaOutcome h v
  refine ⟨hout.timer1_changed, hout.timer2_changed, fun hne => ?latch1, hout.latch2_changed⟩
  case latch1 =>
    obtain hi | ⟨r, d, hi, hr⟩ := hout.latch1_changed hne
    · exact .inl hi
    · obtain rfl | rfl | rfl | rfl := hr <;> simp [hi, writeInstr]

/-- Settles O39: READ_REG and WRITE_REG by operation, as the bus and the drain reach them. -/
theorem registerFileIsTheRegisterCalls : Obligations.RegisterFileIsTheRegisterCalls := by
  intro v r d s
  exact ⟨exec_readInstr v r s, exec_writeInstr v d r s⟩

/-- Settles O32: the states the write and the setter leave, and the two reads of port A in the second. -/
theorem portAPassesThrough : Obligations.PortAPassesThrough := by
  intro v mask d s s1 s2 _ hset
  have hpa : (s2.via v).pa = d := by
    cases (exec_setPortInstr v .a d s1).symm.trans hset
    exact congrArg Via.pa (via_callReturns_same s1 v .none _)
  refine ⟨⟨_, exec_readInstr v .oraIraNh s2, ?nhByte, ?nhVia⟩, _, exec_readInstr v .oraIra s2, ?byte, ?port⟩
  case nhByte | byte => exact congrArg Result.byte hpa
  case nhVia => exact via_callReturns_same ..
  case port => exact (congrArg Via.pa (via_callReturns_same ..)).trans hpa

end Sys2Proof.Proofs

/-! PROOFS of the family other, memory images: every image of the address space is one canonical memory (R22,
R60). -/

namespace Sys2Proof.Proofs

open Sys2Proof Sys2Proof.Machine

section Images

/-! ### The canonical cells of an image -/

/-- The cells of the `n` addresses from `lo` on whose byte is not the unlisted one. -/
def imageCells (f : Nat → Byte) : Nat → Nat → List Host.Cell
  | _, 0 => []
  | lo, n + 1 =>
    if f lo = Memory.blank then imageCells f (lo + 1) n else (lo, f lo) :: imageCells f (lo + 1) n

theorem canonicalFrom_imageCells (f : Nat → Byte) {lo n : Nat} (h : lo + n ≤ 65536) :
    canonicalFrom lo (imageCells f lo n) = true := by
  induction n generalizing lo with
  | zero => rfl
  | succ n ih =>
    have hrest := ih (lo := lo + 1) (by omega)
    rw [imageCells]
    split
    case isTrue => exact canonicalFrom_mono (Nat.le_succ lo) hrest
    case isFalse hd => exact canonicalFrom_cons.2 ⟨le_rfl, by omega, hd, hrest⟩

theorem readCells_imageCells (f : Nat → Byte) {lo n a : Nat} (h : lo + n ≤ 65536) (hlo : lo ≤ a)
    (ha : a < lo + n) : readCells (imageCells f lo n) a = f a := by
  induction n generalizing lo with
  | zero => omega
  | succ n ih =>
    have hrest : lo + 1 ≤ a → readCells (imageCells f (lo + 1) n) a = f a :=
      fun hlo => ih (by omega) hlo (by omega)
    obtain rfl | hlt := Nat.eq_or_lt_of_le hlo
    · have hbelow : readCells (imageCells f (lo + 1) n) lo = Memory.blank :=
        readCells_below (canonicalFrom_imageCells f (by omega)) (Nat.lt_succ_self lo)
      by_cases hd : f lo = Memory.blank
      · rw [imageCells, if_pos hd, hbelow, hd]
      · rw [imageCells, if_neg hd, readCells, if_pos rfl]
    · rw [imageCells]
      split
      case isTrue => exact hrest hlt
      case isFalse => rw [readCells, if_neg hlt.ne, hrest hlt]

end Images

section Uniqueness

/-! ### Canonical cells are the ones of what they read as -/

variable {lo lo' : Nat} {c : Host.Cell} {rest cells : List Host.Cell}

/-- A cell is read at its address. -/
theorem readCells_head : readCells (c :: rest) c.1 = c.2 := if_pos rfl

/-- Above its first cell a list reads as the rest of it. -/
theorem readCells_tail {a : Nat} (h : c.1 < a) : readCells (c :: rest) a = readCells rest a :=
  if_neg h.ne

/-- Cells that start above the first address of others do not read alike there. -/
theorem readCells_head_ne (h : canonicalFrom lo (c :: rest) = true)
    (h' : canonicalFrom lo' cells = true) (hlt : c.1 < lo') :
    readCells (c :: rest) c.1 ≠ readCells cells c.1 := by
  obtain ⟨-, -, hd, -⟩ := canonicalFrom_cons.1 h
  rwa [readCells_head, readCells_below h' hlt]

theorem cells_eq_of_readCells_eq {cells cells' : List Host.Cell} (h : canonicalFrom lo cells = true)
    (h' : canonicalFrom lo cells' = true)
    (heq : ∀ a, a < 65536 → readCells cells a = readCells cells' a) : cells = cells' := by
  induction cells generalizing lo cells' with
  | nil =>
    cases cells' with
    | nil => rfl
    | cons c' rest' =>
      obtain ⟨-, hc', -, -⟩ := canonicalFrom_cons.1 h'
      exact absurd (heq _ hc').symm (readCells_head_ne (lo' := c'.1 + 1) h' rfl (Nat.lt_succ_self _))
  | cons c rest ih =>
    obtain ⟨hlo, hc, hd, hrest⟩ := canonicalFrom_cons.1 h
    cases cells' with
    | nil => exact absurd (heq _ hc) (readCells_head_ne (lo' := c.1 + 1) h rfl (Nat.lt_succ_self _))
    | cons c' rest' =>
      obtain ⟨hlo', hc', hd', hrest'⟩ := canonicalFrom_cons.1 h'
      obtain hlt | haddr | hlt := Nat.lt_trichotomy c.1 c'.1
      · have hfrom : canonicalFrom c'.1 (c' :: rest') = true :=
          canonicalFrom_cons.2 ⟨le_rfl, hc', hd', hrest'⟩
        exact absurd (heq _ hc) (readCells_head_ne h hfrom hlt)
      · have hdata : c.2 = c'.2 := by
          have hread := heq c.1 hc
          rwa [readCells_head, haddr, readCells_head] at hread
        have hc_eq : c = c' := Prod.ext haddr hdata
        subst hc_eq
        refine congrArg (c :: ·) (ih hrest hrest' fun a ha => ?_)
        obtain hle | hgt := Nat.lt_or_ge c.1 a
        · rw [← readCells_tail hle, heq a ha, readCells_tail hle]
        · rw [readCells_below hrest (Nat.lt_succ_of_le hgt),
            readCells_below hrest' (Nat.lt_succ_of_le hgt)]
      · have hfrom : canonicalFrom c.1 (c :: rest) = true :=
          canonicalFrom_cons.2 ⟨le_rfl, hc, hd, hrest⟩
        exact absurd (heq _ hc').symm (readCells_head_ne h' hfrom hlt)

end Uniqueness

/-- Settles O14: the canonical cells of the image, and the cells rebuilt from what they read as. -/
theorem everyImageIsOneCanonicalMemory : Obligations.EveryImageIsOneCanonicalMemory := by
  refine ⟨fun f => ?image, fun m m' h h' heq => ?unique⟩
  case image =>
    refine ⟨⟨imageCells (fun k => f (BitVec.ofNat 16 k)) 0 65536⟩,
      canonicalFrom_imageCells _ le_rfl, fun a => ?_⟩
    have hread := readCells_imageCells (fun k => f (BitVec.ofNat 16 k)) (n := 65536) le_rfl
      (Nat.zero_le a.toNat) a.isLt
    rwa [BitVec.ofNat_toNat, BitVec.setWidth_eq] at hread
  case unique =>
    refine congrArg Memory.mk (cells_eq_of_readCells_eq h h' fun a ha => ?_)
    have hread := heq (BitVec.ofNat 16 a)
    rwa [Memory.read, Memory.read, BitVec.toNat_ofNat, Nat.mod_eq_of_lt ha] at hread

end Sys2Proof.Proofs

/-! PROOFS of the family other, timers: runs of TICK 1 (R195 to R197), a timer load (R162) and a pulse on a line
(R292). -/

namespace Sys2Proof.Proofs

open Sys2Proof Sys2Proof.Machine

section Runs

/-! ### A counter under a repeated step -/

variable {β : Type} {f : Via → Via} {cnt : Via → Count} {kept : Via → β} {x : Via}

/-- A counter that every step above 1 decrements, counts down to 1 in steps that keep the rest. -/
theorem iterate_countsDown
    (hstep : ∀ y, kept y = kept x → 1 < (cnt y).toNat →
      (cnt (f y)).toNat = (cnt y).toNat - 1 ∧ kept (f y) = kept y) :
    ∀ k, k < (cnt x).toNat → (cnt (f^[k] x)).toNat = (cnt x).toNat - k ∧ kept (f^[k] x) = kept x
  | 0, _ => ⟨rfl, rfl⟩
  | k + 1, hk => by
    obtain ⟨hcnt, hkept⟩ := iterate_countsDown hstep k (by omega)
    obtain ⟨hcnt', hkept'⟩ := hstep _ hkept (by omega)
    rw [Function.iterate_succ_apply']
    exact ⟨by omega, hkept'.trans hkept⟩

/-- A counter that every step decrements modulo 2^16 wraps for ever. -/
theorem iterate_wraps
    (hstep : ∀ y, kept y = kept x → cnt (f y) = cnt y - 1#16 ∧ kept (f y) = kept y) :
    ∀ k, cnt (f^[k] x) = cnt x - BitVec.ofNat 16 k ∧ kept (f^[k] x) = kept x
  | 0 => ⟨(BitVec.sub_zero _).symm, rfl⟩
  | k + 1 => by
    obtain ⟨hcnt, hkept⟩ := iterate_wraps hstep k
    obtain ⟨hcnt', hkept'⟩ := hstep _ hkept
    rw [Function.iterate_succ_apply', hcnt', hcnt, BitVec.ofNat_add]
    exact ⟨by ring, hkept'.trans hkept⟩

end Runs

section CountDown

/-! ### The exact count after TICK 1 (R190) -/

variable {c : Count}

theorem countDown_one_pos (h : 1 < c.toNat) : 0 < countDown c 1 := by
  unfold countDown; omega

theorem countDown_one_of_eq {n : Nat} (h : c.toNat = n) : countDown c 1 = (n : Int) - 1 := by
  rw [countDown, h]; rfl

/-- The count as 16 bits is the counter decremented modulo 2^16. -/
theorem ofInt_countDown_one : BitVec.ofInt 16 (countDown c 1) = c - 1#16 := by
  have hval := toNat_ofInt_count (countDown c 1)
  rw [countDown_one_of_eq rfl] at hval ⊢
  refine BitVec.eq_of_toNat_eq ?_
  rw [BitVec.toNat_sub]
  change _ = (2 ^ 16 - 1 + c.toNat) % 2 ^ 16
  omega

theorem toNat_ofInt_countDown_one (h : 1 < c.toNat) :
    (BitVec.ofInt 16 (countDown c 1)).toNat = c.toNat - 1 := by
  have hpos := toNat_ofInt_countDown_of_pos (countDown_one_pos h)
  rw [countDown_one_of_eq rfl] at hpos ⊢
  omega

end CountDown

section Timer1

/-! ### Timer 1 under TICK 1 -/

variable {x : Via}

/-- What TICK 1 keeps of the part of a VIA that Timer 1 depends on, until it expires. -/
def timer1Kept (x : Via) : Byte × Count × Bool × Bool := (x.acr, x.t1l, x.t1fired, x.ifr.getLsbD 6)

theorem ticked_t1c (x : Via) (n : Nat) : (x.ticked n).t1c = (x.t1Step n).t1c := by rw [ticked_eq]

theorem ticked_t1fired (x : Via) (n : Nat) : (x.ticked n).t1fired = (x.t1Step n).t1fired := by
  rw [ticked_eq]

theorem timer1Kept_ticked (x : Via) (n : Nat) :
    timer1Kept (x.ticked n) = (x.acr, x.t1l, (x.t1Step n).t1fired, (x.t1Step n).ifr.getLsbD 6) := by
  rw [timer1Kept, ticked_ifr_t1, ticked_t1fired, ticked_eq]

/-- Above 1, TICK 1 only counts down. -/
theorem tick1_timer1_counts (h : 1 < x.t1c.toNat) :
    (x.ticked 1).t1c.toNat = x.t1c.toNat - 1 ∧ timer1Kept (x.ticked 1) = timer1Kept x := by
  rw [ticked_t1c, timer1Kept_ticked, t1Step_of_pos (countDown_one_pos h)]
  exact ⟨toNat_ofInt_countDown_one h, rfl⟩

theorem iterate_tick1_timer1_counts {k : Nat} (hk : k < x.t1c.toNat) :
    ((fun y : Via => (y.tick 1).2)^[k] x).t1c.toNat = x.t1c.toNat - k ∧
      timer1Kept ((fun y : Via => (y.tick 1).2)^[k] x) = timer1Kept x :=
  iterate_countsDown (cnt := Via.t1c) (fun _ _ h => tick1_timer1_counts h) k hk

/-- The last TICK 1 before the expiry leaves the counter at 1. -/
theorem iterate_tick1_timer1_last (h : 1 ≤ x.t1c.toNat) :
    ∃ y : Via, (fun y : Via => (y.tick 1).2)^[x.t1c.toNat] x = y.ticked 1 ∧ y.t1c.toNat = 1 ∧
      timer1Kept y = timer1Kept x := by
  obtain ⟨k, hk⟩ := Nat.exists_eq_add_of_le' h
  obtain ⟨hcnt, hkept⟩ := iterate_tick1_timer1_counts (x := x) (k := k) (by omega)
  rw [hk, Function.iterate_succ_apply']
  exact ⟨_, rfl, by omega, hkept⟩

/-- At or below 1 in free-run mode, TICK 1 sets the flag and reloads (R191). -/
theorem tick1_timer1_reloads (h6 : x.acr.getLsbD 6 = true) (h : x.t1c.toNat ≤ 1) :
    (x.ticked 1).ifr.getLsbD 6 = true ∧
      (x.ticked 1).t1c = BitVec.ofInt 16 (countDown x.t1c 1 + x.t1l.toNat + 2) := by
  have hd : countDown x.t1c 1 ≤ 0 := by rw [countDown_one_of_eq rfl]; omega
  rw [ticked_ifr_t1, ticked_t1c, t1Step_of_freeRun hd h6]
  exact ⟨getLsbD_or_flagT1 _, rfl⟩

/-- At or below 1 in one-shot mode, TICK 1 sets the flag and the fired flag, once (R191). -/
theorem tick1_timer1_expires (h6 : x.acr.getLsbD 6 = false) (hf : x.t1fired = false)
    (h : x.t1c.toNat ≤ 1) :
    (x.ticked 1).ifr.getLsbD 6 = true ∧ (x.ticked 1).t1fired = true ∧
      (x.ticked 1).t1c = BitVec.ofInt 16 (countDown x.t1c 1 + 0xFFFF) := by
  have hd : countDown x.t1c 1 ≤ 0 := by rw [countDown_one_of_eq rfl]; omega
  rw [ticked_ifr_t1, ticked_t1c, ticked_t1fired, t1Step_of_oneShot hd h6 hf]
  exact ⟨getLsbD_or_flagT1 _, rfl, rfl⟩

/-- Once fired in one-shot mode, TICK 1 only decrements, modulo 2^16 (R191). -/
theorem tick1_timer1_wraps (h6 : x.acr.getLsbD 6 = false) (hf : x.t1fired = true) :
    (x.ticked 1).t1c = x.t1c - 1#16 ∧ timer1Kept (x.ticked 1) = timer1Kept x := by
  have hstep : x.t1Step 1 = { x with t1c := BitVec.ofInt 16 (countDown x.t1c 1) } := by
    obtain hd | hd := lt_or_ge 0 (countDown x.t1c 1)
    · exact t1Step_of_pos hd
    · exact t1Step_of_fired hd h6 hf
  rw [ticked_t1c, timer1Kept_ticked, hstep]
  exact ⟨ofInt_countDown_one, rfl⟩

end Timer1

/-- Settles O26: T1L + 1 ticks that count down, and the reload by the next one; the two wrapped reload values are
at or below 1 already. -/
theorem freeRunPeriodIsLatchPlusTwo : Obligations.FreeRunPeriodIsLatchPlusTwo := by
  intro x h6
  refine ⟨fun hl hc => ⟨fun k hk => ?counts, ?reloads⟩, fun hl hc => ?wrapped, fun hl hc => ?wrapped1⟩
  case counts =>
    obtain ⟨hcnt, hkept⟩ := iterate_tick1_timer1_counts (hc.symm ▸ hk)
    simp only [timer1Kept, Prod.mk.injEq] at hkept
    obtain ⟨-, -, -, hflag⟩ := hkept
    exact ⟨hflag, hc ▸ hcnt⟩
  case reloads =>
    obtain ⟨y, hy, hone, hkept⟩ := iterate_tick1_timer1_last (x := x) (by omega)
    simp only [timer1Kept, Prod.mk.injEq] at hkept
    obtain ⟨hacr, hlatch, -, -⟩ := hkept
    obtain ⟨hflag, hcnt⟩ := tick1_timer1_reloads (hacr.symm ▸ h6) hone.le
    have hval := toNat_ofInt_count (countDown y.t1c 1 + y.t1l.toNat + 2)
    rw [← hcnt, countDown_one_of_eq hone, hlatch] at hval
    rw [← hc, hy]
    exact ⟨hflag, by omega⟩
  case wrapped =>
    have h := tick1_timer1_reloads h6 (by rw [hc]; decide)
    rw [hl, hc] at h
    exact h
  case wrapped1 =>
    have h := tick1_timer1_reloads h6 (by rw [hc]; decide)
    rw [hl, hc] at h
    exact h

section OneShot

/-! ### One-shot timers (R196): both timers of a VIA are one, with a mode bit of ACR that switches it off -/

/-- The behaviour of a one-shot timer under a step: its counter, its fired flag, its interrupt flag, and the mode
bit that is 0 while it is one. -/
structure OneShotTimer (f : Via → Via) (mode : Via → Bool) (cnt : Via → Count)
    (fired flag : Via → Bool) : Prop where
  mode_kept : ∀ y, mode (f y) = mode y
  counts : ∀ y, mode y = false → 1 < (cnt y).toNat →
    (cnt (f y)).toNat = (cnt y).toNat - 1 ∧ fired (f y) = fired y ∧ flag (f y) = flag y
  expires : ∀ y, mode y = false → fired y = false → (cnt y).toNat ≤ 1 →
    flag (f y) = true ∧ fired (f y) = true ∧
      cnt (f y) = BitVec.ofInt 16 (countDown (cnt y) 1 + 0xFFFF)
  wraps : ∀ y, mode y = false → fired y = true →
    cnt (f y) = cnt y - 1#16 ∧ fired (f y) = fired y ∧ flag (f y) = flag y

namespace OneShotTimer

variable {f : Via → Via} {mode : Via → Bool} {cnt : Via → Count} {fired flag : Via → Bool}

/-- A load of c ≥ 1 counts down for c - 1 steps and expires at the next. -/
theorem run_of_load (h : OneShotTimer f mode cnt fired flag) {x : Via} (hmode : mode x = false)
    (hfired : fired x = false) (hload : 1 ≤ (cnt x).toNat) :
    (∀ k, k < (cnt x).toNat → flag (f^[k] x) = flag x ∧ (cnt (f^[k] x)).toNat = (cnt x).toNat - k) ∧
    flag (f^[(cnt x).toNat] x) = true ∧ fired (f^[(cnt x).toNat] x) = true ∧
    cnt (f^[(cnt x).toNat] x) = 0xFFFF#16 := by
  have hrun := iterate_countsDown (f := f) (cnt := cnt) (kept := fun y => (mode y, fired y, flag y))
    (x := x) fun y hkept hlt => by
      obtain ⟨hmode', -⟩ := Prod.mk.inj hkept
      obtain ⟨hcnt, hfired', hflag'⟩ := h.counts y (hmode'.trans hmode) hlt
      exact ⟨hcnt, by simp only [h.mode_kept, hfired', hflag']⟩
  refine ⟨fun k hk => ?_, ?_⟩
  · obtain ⟨hcnt, hkept⟩ := hrun k hk
    exact ⟨congrArg (·.2.2) hkept, hcnt⟩
  · obtain ⟨k, hk⟩ := Nat.exists_eq_add_of_le' hload
    obtain ⟨hcnt, hkept⟩ := hrun k (by omega)
    have hone : (cnt (f^[k] x)).toNat = 1 := by omega
    obtain ⟨hflag', hfired', hcnt'⟩ := h.expires _ ((congrArg (·.1) hkept).trans hmode)
      ((congrArg (·.2.1) hkept).trans hfired) hone.le
    rw [countDown_one_of_eq hone] at hcnt'
    rw [hk, Function.iterate_succ_apply']
    exact ⟨hflag', hfired', hcnt'⟩

/-- A load of 0 expires at the first step. -/
theorem run_of_zero (h : OneShotTimer f mode cnt fired flag) {x : Via} (hmode : mode x = false)
    (hfired : fired x = false) (hload : cnt x = 0#16) :
    flag (f x) = true ∧ fired (f x) = true ∧ cnt (f x) = 0xFFFE#16 := by
  have hexp := h.expires x hmode hfired (by rw [hload]; decide)
  rwa [hload] at hexp

/-- Once fired, the counter wraps and the flag stays. -/
theorem run_of_fired (h : OneShotTimer f mode cnt fired flag) {x : Via} (hmode : mode x = false)
    (hfired : fired x = true) (k : Nat) :
    flag (f^[k] x) = flag x ∧ fired (f^[k] x) = true ∧ cnt (f^[k] x) = cnt x - BitVec.ofNat 16 k := by
  obtain ⟨hcnt, hkept⟩ := iterate_wraps (f := f) (cnt := cnt) (x := x)
    (kept := fun y => (mode y, fired y, flag y)) (fun y hkept => by
      simp only [Prod.mk.injEq] at hkept
      obtain ⟨hmode', hfired', -⟩ := hkept
      obtain ⟨hcnt, hfired'', hflag⟩ := h.wraps y (hmode'.trans hmode) (hfired'.trans hfired)
      exact ⟨hcnt, by simp only [h.mode_kept, hfired'', hflag]⟩) k
  exact ⟨congrArg (·.2.2) hkept, (congrArg (·.2.1) hkept).trans hfired, hcnt⟩

end OneShotTimer

theorem ticked_acr (x : Via) (n : Nat) : (x.ticked n).acr = x.acr := by rw [ticked_eq]

/-- Timer 1 is a one-shot timer while ACR[6] = 0 (R191). -/
theorem timer1_oneShot : OneShotTimer (fun y => (y.tick 1).2) (·.acr.getLsbD 6) Via.t1c Via.t1fired
    (·.ifr.getLsbD 6) where
  mode_kept y := congrArg (·.getLsbD 6) (ticked_acr y 1)
  counts y _ hlt := by
    obtain ⟨hcnt, hkept⟩ := tick1_timer1_counts hlt
    simp only [timer1Kept, Prod.mk.injEq] at hkept
    obtain ⟨-, -, hkept⟩ := hkept
    exact ⟨hcnt, hkept⟩
  expires y h6 hf hle := tick1_timer1_expires h6 hf hle
  wraps y h6 hf := by
    obtain ⟨hcnt, hkept⟩ := tick1_timer1_wraps h6 hf
    simp only [timer1Kept, Prod.mk.injEq] at hkept
    obtain ⟨-, -, hkept⟩ := hkept
    exact ⟨hcnt, hkept⟩

theorem ticked_t2c (x : Via) (n : Nat) : (x.ticked n).t2c = (x.t2Step n).t2c := by rw [ticked_eq]

theorem ticked_t2fired (x : Via) (n : Nat) : (x.ticked n).t2fired = (x.t2Step n).t2fired := by
  rw [ticked_eq]

/-- Timer 2 is a one-shot timer while ACR[5] = 0 (R192). -/
theorem timer2_oneShot : OneShotTimer (fun y => (y.tick 1).2) (·.acr.getLsbD 5) Via.t2c Via.t2fired
    (·.ifr.getLsbD 5) where
  mode_kept y := congrArg (·.getLsbD 5) (ticked_acr y 1)
  counts y h5 hlt := by
    simp only [Via.tick, ticked_t2c, ticked_t2fired, ticked_ifr_t2,
      t2Step_of_pos h5 (countDown_one_pos hlt), and_true]
    exact toNat_ofInt_countDown_one hlt
  expires y h5 hf hle := by
    have hd : countDown y.t2c 1 ≤ 0 := by rw [countDown_one_of_eq rfl]; omega
    simp only [Via.tick, ticked_t2c, ticked_t2fired, ticked_ifr_t2, t2Step_of_oneShot h5 hd hf,
      and_true]
    exact getLsbD_or_flagT2 _
  wraps y h5 hf := by
    have hstep : y.t2Step 1 = { y with t2c := BitVec.ofInt 16 (countDown y.t2c 1) } := by
      obtain hd | hd := lt_or_ge 0 (countDown y.t2c 1)
      · exact t2Step_of_pos h5 hd
      · exact t2Step_of_fired h5 hd hf
    simp only [Via.tick, ticked_t2c, ticked_t2fired, ticked_ifr_t2, hstep, and_true]
    exact ofInt_countDown_one

end OneShot

/-- Settles O27: both timers are one-shot timers, whose three runs are the three clauses of each. -/
theorem oneShotTimersFireOnce : Obligations.OneShotTimersFireOnce := by
  refine ⟨fun x h6 => ⟨fun hf hflag hload => ?load1, fun hf hload => ?zero1, fun hf k => ?fired1⟩,
    fun x h5 => ⟨fun hf hflag hload => ?load2, fun hf hload => ?zero2, fun hf k => ?fired2⟩⟩
  case load1 =>
    have hrun := timer1_oneShot.run_of_load h6 hf hload
    rwa [hflag] at hrun
  case zero1 => exact timer1_oneShot.run_of_zero h6 hf hload
  case fired1 => exact timer1_oneShot.run_of_fired h6 hf k
  case load2 =>
    have hrun := timer2_oneShot.run_of_load h5 hf hload
    rwa [hflag] at hrun
  case zero2 => exact timer2_oneShot.run_of_zero h5 hf hload
  case fired2 => exact timer2_oneShot.run_of_fired h5 hf k

/-- Settles O56: TICK 1 evaluated on the canonical VIA, which is what RESET leaves. -/
theorem firstTickAfterResetExpiresBothTimers : Obligations.FirstTickAfterResetExpiresBothTimers := by
  intro v s s1 hreset
  have hzero : s1.via v = Via.zero := by
    cases (exec_reset v s).symm.trans hreset
    exact via_callReturns_same s v .none _
  refine ⟨_, exec_tick v 1#12 s1, ?_⟩
  rw [via_callReturns_same, callReturns_result, hzero]
  decide

section CallOutcomes

/-! ### The VIA a call leaves, from the state it answers -/

variable {v : ViaId} {s t : State}

theorem via_of_exec_writeInstr {r : Reg} {d : Byte} (h : exec (writeInstr v d r) s = .next t) :
    t.via v = (s.via v).writeReg r d := by
  cases (exec_writeInstr v d r s).symm.trans h
  exact via_callReturns_same ..

theorem via_of_exec_setLineInstr {l : Line} {b : Bool} (h : exec (setLineInstr v b l) s = .next t) :
    t.via v = (s.via v).setLine l b := by
  cases (exec_setLineInstr v l b s).symm.trans h
  exact via_callReturns_same s v .none _

end CallOutcomes

/-- Settles O57: the VIA after the two writes, and what the two reads return of its counter. -/
theorem timerLoadReadsBack : Obligations.TimerLoadReadsBack := by
  intro v l h s s1 s2 hlow hhigh
  have hvia1 : s1.via v = (s.via v).writeReg .t1cL l := via_of_exec_writeInstr hlow
  have hvia2 : s2.via v = (s1.via v).writeReg .t1cH h := via_of_exec_writeInstr hhigh
  rw [writeReg_t1cL] at hvia1
  rw [writeReg_t1cH, hvia1] at hvia2
  have hflag : (s2.via v).ifr.getLsbD 6 = false := by
    simp [hvia2]
  have hcount : (s2.via v).t1c = h ++ l := by
    rw [hvia2]
    exact congrArg (h ++ ·) BitVec.extractLsb'_append_eq_right
  refine ⟨hflag, hcount, _, exec_readInstr v .t1cL s2, ?low, _, exec_readInstr v .t1cH _, ?high⟩
  case low =>
    rw [State.rdVia, State.readCall, callReturns_result, readReg_t1cL, hcount]
    exact congrArg Result.byte BitVec.extractLsb'_append_eq_right
  case high =>
    rw [State.rdVia, State.readCall, callReturns_result, State.rdVia, State.readCall,
      via_callReturns_same, readReg_t1cH, readReg_t1cL]
    exact congrArg Result.byte
      ((congrArg (·.extractLsb' 8 8) hcount).trans BitVec.extractLsb'_append_eq_left)

/-- Settles O58: SET_LINE twice leaves the line at its remembered value, where a TICK sees no change. -/
theorem pulseShorterThanATickIsLost : Obligations.PulseShorterThanATickIsLost := by
  intro v n s s1 s2 t hprev hrise hfall htick
  have hvia1 : s1.via v = (s.via v).setLine .ca1 (!(s.via v).ca1) := via_of_exec_setLineInstr hrise
  have hvia2 : s2.via v = (s1.via v).setLine .ca1 (s.via v).ca1 := via_of_exec_setLineInstr hfall
  have hback : s2.via v = s.via v := by rw [hvia2, hvia1]; rfl
  cases (exec_tick v n s2).symm.trans htick
  rw [via_callReturns_same, ticked_ifr_ca1, hback, decide_eq_false fun hedge => hedge.1 hprev,
    Bool.or_false]

end Sys2Proof.Proofs

/-! PROOFS of the family other, steps: what a step of each input answers, and what no step changes (R12, R22, R23,
R230, R235, R241 to R243, R264). -/

namespace Sys2Proof.Proofs

open Sys2Proof Sys2Proof.Machine

section StepOutcomes

/-! ### The outcome of a step, by the input it takes -/

variable {s u : State} {m : KeyMatrix} {rest : List Input}

theorem runInput_bus_of_exec {w : BusWord} (hu : exec (decodeBus w) s = .next u) :
    runInput (.bus w m) s = .next (u.afterBusPhase m) := by
  rw [runInput, decode, runDecoded, hu, completeTick]

theorem afterBusPhase_of_lockstep (h : s.setup.lockstep = true) :
    s.afterBusPhase m = (s.dispatchPhase m 1).countTick := if_pos h

theorem afterBusPhase_of_relaxed (h : s.setup.lockstep = false) : s.afterBusPhase m = s.countTick :=
  if_neg (ne_true_of_eq_false h)

/-- With no input waiting the state stays (R264). -/
theorem step_of_idle (hc : s.setup.check = none) (hi : s.inputs = []) : step s = .next s := by
  rw [step_of_check hc, runNext, hi]

theorem runInput_dispatch_of_due (h : s.dispatchDue = true) :
    runInput (.dispatch m) s = .next (s.dispatchStep m) := if_pos h

theorem runInput_dispatch_of_not_due (h : s.dispatchDue = false) :
    runInput (.dispatch m) s = .refused .dispatchNotDue := if_neg (ne_true_of_eq_false h)

theorem dispatchDue_iff : s.dispatchDue = true ↔ s.setup.lockstep = false ∧ s.dispatched < s.ticks := by
  rw [State.dispatchDue, Bool.and_eq_true, Bool.not_eq_true', decide_eq_true_iff]

/-- With PER_TICK a DISPATCH_STEP is one cycle (R241). -/
theorem dispatchStep_of_perTick (h : s.setup.tickAdvance = .perTick) :
    s.dispatchStep m = { s.dispatchPhase m 1 with dispatched := s.dispatched + 1 } := by
  rw [State.dispatchStep, State.dispatchAdvance, h]

/-- With ELAPSED a DISPATCH_STEP is the whole lag (R241). -/
theorem dispatchStep_of_elapsed (h : s.setup.tickAdvance = .elapsed) (hlag : s.dispatched ≤ s.ticks) :
    s.dispatchStep m =
      { s.dispatchPhase m (s.ticks - s.dispatched) with dispatched := s.ticks } := by
  simp only [State.dispatchStep, State.dispatchAdvance, h, Nat.add_sub_cancel' hlag]

end StepOutcomes

/-- Settles O36: the outcome of a call and of a bus word, and what follows the bus phase in each mode. -/
theorem stepRunsTheDecodedOperation : Obligations.StepRunsTheDecodedOperation := by
  refine ⟨fun s v w rest i hc hi hd => ?call, fun s w m rest i hc hi hd => ?bus⟩
  case call => exact (step_of_inputs hc hi).trans (runInput_call_of_ok _ hd)
  case bus =>
    cases hd
    obtain ⟨u, hu⟩ := exec_answers_next (decodeBus w) { s with inputs := rest }
    obtain ⟨-, hsetup⟩ := exec_irq_setup hu
    have hstep : step s = .next (u.afterBusPhase m) :=
      (step_of_inputs hc hi).trans (runInput_bus_of_exec hu)
    refine ⟨u, hu, fun hl => ?_, fun hl => ?_⟩
    · rw [hstep, afterBusPhase_of_lockstep (by rw [hsetup]; exact hl)]
    · rw [hstep, afterBusPhase_of_relaxed (by rw [hsetup]; exact hl)]

/-- Settles O44: a DISPATCH_STEP where it is due, with its two advances, and where it is not. -/
theorem relaxedDispatchAdvances : Obligations.RelaxedDispatchAdvances := by
  intro s m rest hc hi
  rw [step_of_inputs hc hi]
  refine ⟨fun hl hlag hadv => ?perTick, fun hl hlag hadv => ?elapsed, fun h => ?notDue⟩
  case perTick =>
    have hdue : ({ s with inputs := rest } : State).dispatchDue = true := dispatchDue_iff.2 ⟨hl, hlag⟩
    refine (runInput_dispatch_of_due hdue).trans (congrArg _ ?_)
    exact dispatchStep_of_perTick hadv
  case elapsed =>
    have hdue : ({ s with inputs := rest } : State).dispatchDue = true := dispatchDue_iff.2 ⟨hl, hlag⟩
    refine (runInput_dispatch_of_due hdue).trans (congrArg _ ?_)
    exact dispatchStep_of_elapsed hadv hlag.le
  case notDue =>
    refine runInput_dispatch_of_not_due (Bool.eq_false_iff.2 fun hdue => ?_)
    obtain ⟨hl, hlag⟩ := dispatchDue_iff.1 hdue
    exact h.elim (ne_true_of_eq_false hl) hlag.not_ge

/-- Settles O47: the frame of the dispatch phase; with no input left, the state is idle. -/
theorem shutdownQuantumChangesNoMemory : Obligations.ShutdownQuantumChangesNoMemory := by
  intro s m rest hc hi
  obtain ⟨hmem, hpt, hmbox, hticks, -, hsetup, -⟩ :=
    dispatchPhase_frame ({ s with inputs := rest } : State) m 1
  exact ⟨_, step_of_inputs hc hi, hmem, hpt, rfl, hmbox, hticks,
    step_of_idle ((congrArg Setup.check hsetup).trans hc) rfl⟩

/-- Settles O59: the idle step, and the refusal of a late cycle. -/
theorem idleAndLateSteps : Obligations.IdleAndLateSteps :=
  fun _ hc => ⟨fun hi => step_of_idle hc hi, fun _ hi => step_of_inputs hc hi⟩

section Completion

/-! ### Which inputs a step answers (R97, R241, R242, R252) -/

theorem runInput_answers_iff (e : Input) (s : State) :
    (∃ t, runInput e s = .next t) ↔ s.admits e = true := by
  cases e with
  | bus w m => exact iff_of_true (runInput_bus_answers_next s w m) rfl
  | call v w =>
    cases hd : decodeViaop v w with
    | ok i =>
      rw [runInput_call_of_ok s hd]
      exact iff_of_true (exec_answers_next i s) (by rw [State.admits, hd, Decoded.isOk])
    | error e => simp [runInput_call_of_error hd, State.admits, hd, Decoded.isOk]
  | dispatch m =>
    rw [State.admits]
    cases hdue : s.dispatchDue with
    | true => simp [runInput_dispatch_of_due hdue]
    | false => simp [runInput_dispatch_of_not_due hdue]
  | overlap w m =>
    rw [State.admits, runInput, runOverlap]
    cases s.dispatchDue with
    | true => cases viaRead s w <;> simp
    | false => simp
  | shutdown m => exact iff_of_true ⟨_, rfl⟩ rfl
  | lateCycle => exact iff_of_false (fun ⟨_, h⟩ => by cases h) Bool.false_ne_true

/-- Which inputs may be offered does not depend on the ones behind them. -/
theorem admits_with_inputs (s : State) (rest : List Input) (e : Input) :
    ({ s with inputs := rest } : State).admits e = s.admits e := by
  cases e <;> rfl

end Completion

/-- Settles O51: the idle step always answers, and a step with an input answers as the input does. -/
theorem everyAdmittedInputCompletes : Obligations.EveryAdmittedInputCompletes := by
  intro s hc
  rw [State.CanStep, State.Admitted]
  cases hi : s.inputs with
  | nil => exact iff_of_true ⟨s, step_of_idle hc hi⟩ (fun _ _ h => by cases h)
  | cons e rest =>
    rw [step_of_inputs hc hi, runInput_answers_iff, admits_with_inputs]
    refine ⟨fun h e' rest' heq => ?_, fun h => h e rest rfl⟩
    cases heq
    exact h

section Frames

/-! ### What an operation and a step leave of the page table, the setup and MEM -/

variable {s t : State} {i : Instr}

theorem busRd_frame (s : State) (a : Addr) :
    (s.busRd a).mem = s.mem ∧ (s.busRd a).pt = s.pt ∧ (s.busRd a).mbox = s.mbox ∧
    (s.busRd a).ticks = s.ticks ∧ (s.busRd a).dispatched = s.dispatched ∧
    (s.busRd a).inputs = s.inputs := by
  obtain ⟨-, h⟩ | ⟨-, -, h⟩ | ⟨v, r, -, -, h⟩ := busRd_cases s a <;> rw [h]
  · exact ⟨rfl, rfl, rfl, rfl, rfl, rfl⟩
  · exact ⟨rfl, rfl, rfl, rfl, rfl, rfl⟩
  · simp only [State.rdVia, State.readCall, callReturns_mem, callReturns_pt, callReturns_mbox,
      callReturns_ticks, callReturns_dispatched, callReturns_inputs, and_self]

theorem busWr_frame (s : State) (a : Addr) (d : Byte) :
    (s.busWr a d).pt = s.pt ∧ (s.busWr a d).ticks = s.ticks ∧
    (s.busWr a d).dispatched = s.dispatched ∧ (s.busWr a d).inputs = s.inputs := by
  obtain ⟨-, h⟩ | ⟨-, h⟩ | ⟨-, -, h⟩ | ⟨_, -, -, h⟩ := busWrStore_cases s a d <;>
    rw [State.busWr, h] <;> exact ⟨rfl, rfl, rfl, rfl⟩

/-- No operation writes the page table, counts a tick or takes an input. -/
theorem exec_frame (h : exec i s = .next t) :
    t.pt = s.pt ∧ t.ticks = s.ticks ∧ t.dispatched = s.dispatched ∧ t.inputs = s.inputs := by
  obtain ⟨a, rfl⟩ | ⟨a, d, rfl⟩ | ⟨v, r, x, hcall⟩ := exec_cases i s
  · cases h
    obtain ⟨-, hpt, -, hticks, hdispatched, hinputs⟩ := busRd_frame s a
    exact ⟨hpt, hticks, hdispatched, hinputs⟩
  · cases h; exact busWr_frame s a d
  · cases hcall.symm.trans h
    exact ⟨callReturns_pt .., callReturns_ticks .., callReturns_dispatched .., callReturns_inputs ..⟩

/-- A write cycle stores its byte outside ROM (R112 to R116), and posts it at a mapped address (R113). -/
theorem busWr_mem_mbox (s : State) (a : Addr) (d : Byte) :
    ((s.busWr a d).mem = s.mem ∨
      classify s.pt a ≠ .rom ∧ (s.busWr a d).mem = s.mem.write a d) ∧
    ((s.busWr a d).mbox = s.mbox ∨
      classify s.pt a = .mappedIO ∧ (ioDecode s.setup a).isSome = true ∧
        (s.busWr a d).mbox = pushEntry s.setup.mailboxCapacity s.mbox ⟨a, d⟩) := by
  obtain ⟨hc, h⟩ | ⟨-, h⟩ | ⟨hc, -, h⟩ | ⟨p, hc, hd, h⟩ := busWrStore_cases s a d <;>
    rw [State.busWr, h]
  · exact ⟨.inr ⟨by rw [hc]; decide, rfl⟩, .inl rfl⟩
  · exact ⟨.inl rfl, .inl rfl⟩
  · exact ⟨.inr ⟨by rw [hc]; decide, rfl⟩, .inl rfl⟩
  · exact ⟨.inr ⟨by rw [hc]; decide, rfl⟩, .inr ⟨hc, by rw [hd]; rfl, rfl⟩⟩

/-- Only a write cycle changes MEM, outside ROM (R22, R114). -/
theorem exec_mem (h : exec i s = .next t) :
    t.mem = s.mem ∨
      ∃ a d, i = .busWr a d ∧ classify s.pt a ≠ .rom ∧ t.mem = s.mem.write a d := by
  obtain ⟨a, rfl⟩ | ⟨a, d, rfl⟩ | ⟨v, r, x, hcall⟩ := exec_cases i s
  · cases h
    obtain ⟨hmem, -⟩ := busRd_frame s a
    exact .inl hmem
  · cases h
    obtain ⟨hmem | ⟨hc, hmem⟩, -⟩ := busWr_mem_mbox s a d
    · exact .inl hmem
    · exact .inr ⟨a, d, rfl, hc, hmem⟩
  · cases hcall.symm.trans h
    exact .inl (callReturns_mem ..)

/-- Only a write cycle at a mapped address posts to the mailbox (R113). -/
theorem exec_mbox (h : exec i s = .next t) :
    t.mbox = s.mbox ∨
      ∃ a d, classify s.pt a = .mappedIO ∧ (ioDecode s.setup a).isSome = true ∧
        t.mbox = pushEntry s.setup.mailboxCapacity s.mbox ⟨a, d⟩ := by
  obtain ⟨a, rfl⟩ | ⟨a, d, rfl⟩ | ⟨v, r, x, hcall⟩ := exec_cases i s
  · cases h
    obtain ⟨-, -, hmbox, -⟩ := busRd_frame s a
    exact .inl hmbox
  · cases h
    obtain ⟨-, hmbox | ⟨hc, hd, hmbox⟩⟩ := busWr_mem_mbox s a d
    · exact .inl hmbox
    · exact .inr ⟨a, d, hc, hd, hmbox⟩
  · cases hcall.symm.trans h
    exact .inl (callReturns_mbox ..)

/-- What follows the bus phase writes neither MEM, PT nor the setup (R230, R241). -/
theorem afterBusPhase_fixed (s : State) (m : KeyMatrix) :
    (s.afterBusPhase m).mem = s.mem ∧ (s.afterBusPhase m).pt = s.pt ∧
      (s.afterBusPhase m).setup = s.setup := by
  obtain ⟨hmem, hpt, -, -, -, hsetup, -⟩ := dispatchPhase_frame s m 1
  unfold State.afterBusPhase
  split
  · exact ⟨hmem, hpt, hsetup⟩
  · exact ⟨rfl, rfl, rfl⟩

/-- A DISPATCH_STEP writes neither MEM, PT nor the setup (R241). -/
theorem dispatchStep_fixed (s : State) (m : KeyMatrix) :
    (s.dispatchStep m).mem = s.mem ∧ (s.dispatchStep m).pt = s.pt ∧
      (s.dispatchStep m).setup = s.setup := by
  obtain ⟨hmem, hpt, -, -, -, hsetup, -⟩ := dispatchPhase_frame s m s.dispatchAdvance
  exact ⟨hmem, hpt, hsetup⟩

/-- An overlap writes neither MEM, PT nor the setup (R242). -/
theorem overlapStep_fixed (s : State) (v : ViaId) (r : Reg) (m : KeyMatrix) :
    (s.overlapStep v r m).mem = s.mem ∧ (s.overlapStep v r m).pt = s.pt ∧
      (s.overlapStep v r m).setup = s.setup := by
  obtain ⟨hmem, hpt, hsetup⟩ := dispatchStep_fixed s m
  refine ⟨Eq.trans ?_ hmem, Eq.trans ?_ hpt, Eq.trans ?_ hsetup⟩
  · exact setVia_mem ..
  · exact setVia_pt ..
  · exact setVia_setup ..

/-- What a step leaves of PT, of the setup, and of MEM. -/
theorem step_fixed (h : step s = .next t) :
    t.pt = s.pt ∧ t.setup = s.setup ∧
      (t.mem = s.mem ∨ ∃ w m rest a d, s.inputs = .bus w m :: rest ∧ decodeBus w = .busWr a d ∧
        classify s.pt a ≠ .rom ∧ t.mem = s.mem.write a d) := by
  obtain ⟨-, ⟨-, rfl⟩ | ⟨w, m, rest, u, hi, hu, rfl⟩ | ⟨v, w, rest, i, -, hd, hexec⟩ |
    ⟨m, rest, -, -, rfl⟩ | ⟨w, m, rest, v, r, -, -, -, rfl⟩ | ⟨m, rest, -, rfl⟩⟩ := step_next_cases h
  · exact ⟨rfl, rfl, .inl rfl⟩
  · obtain ⟨hmem, hpt, hsetup⟩ := afterBusPhase_fixed u m
    obtain ⟨hupt, -⟩ := exec_frame hu
    obtain ⟨-, husetup⟩ := exec_irq_setup hu
    refine ⟨hpt.trans hupt, hsetup.trans husetup, ?_⟩
    obtain humem | ⟨a, d, ha, hc, humem⟩ := exec_mem hu
    · exact .inl (hmem.trans humem)
    · exact .inr ⟨w, m, rest, a, d, hi, ha, hc, hmem.trans humem⟩
  · obtain ⟨-, henc⟩ := encode_of_decodeViaop hd
    obtain ⟨hcall, -⟩ := callsAreConfinedToTheirInstance
    obtain ⟨-, -, hmem, hpt, -, -, -, -, hsetup, -⟩ := hcall i v w _ t henc hexec
    exact ⟨hpt, hsetup, .inl hmem⟩
  · obtain ⟨hmem, hpt, hsetup⟩ := dispatchStep_fixed { s with inputs := rest } m
    exact ⟨hpt, hsetup, .inl hmem⟩
  · obtain ⟨hmem, hpt, hsetup⟩ := overlapStep_fixed { s with inputs := rest } v r m
    exact ⟨hpt, hsetup, .inl hmem⟩
  · obtain ⟨hmem, hpt, -, -, -, hsetup, -⟩ := dispatchPhase_frame { s with inputs := rest } m 1
    exact ⟨hpt, hsetup, .inl hmem⟩

end Frames

/-- Settles O53: what every step leaves of PT and of the setup. -/
theorem pageTableAndSetupAreFixed : Obligations.PageTableAndSetupAreFixed := by
  intro s t h
  obtain ⟨hpt, hsetup, -⟩ := step_fixed h
  exact ⟨hpt, hsetup⟩

/-- Settles O54: a step that changes MEM takes a bus write, which changes the byte at its own address alone. -/
theorem onlyBusWritesChangeMemory : Obligations.OnlyBusWritesChangeMemory := by
  intro s t a hwf h hne
  obtain ⟨-, -, hmem | ⟨w, m, rest, a', d, hi, hw, hc, hmem⟩⟩ := step_fixed h
  · exact absurd (congrArg (·.read a) hmem) hne
  · rw [hmem] at hne ⊢
    obtain rfl : a = a' := by
      by_contra ha
      exact hne (Memory.read_write_other s.mem d ha)
    exact ⟨hc, w, m, rest, d, hi, hw, Memory.read_write_same hwf a d⟩

end Sys2Proof.Proofs

/-! PROOFS of the family other, the invariant: launch states meet it and every step keeps it (R40, R41, R47, R74,
R75, R241); and what an overlap leaves (R242). -/

namespace Sys2Proof.Proofs

open Sys2Proof Sys2Proof.Machine

section Quiet

/-! ### The fields of a VIA that nothing sets (R40, R41) -/

variable {x : Via}

theorem zero_quiet : Via.zero.Quiet := ⟨rfl, rfl, rfl⟩

/-- Flags that lack some bits lack them under any mask. -/
theorem and_and_eq_zero {f m q : Flags} (h : f &&& q = 0#7) : f &&& m &&& q = 0#7 := by
  rw [BitVec.and_assoc, BitVec.and_comm m, ← BitVec.and_assoc, h, BitVec.zero_and]

theorem dropFlags_quiet (h : x.Quiet) (m : Flags) : (x.dropFlags m).Quiet :=
  ⟨and_and_eq_zero h.unraised, h.ca2Prev, h.cb2Prev⟩

theorem writeReg_quiet (h : x.Quiet) (r : Reg) (d : Byte) : (x.writeReg r d).Quiet := by
  obtain ⟨hca2, hcb2⟩ := writeReg_ca2Prev_cb2Prev x d r
  refine ⟨?_, hca2.trans h.ca2Prev, hcb2.trans h.cb2Prev⟩
  rw [writeReg_flags]
  exact and_and_eq_zero h.unraised

/-- TICK can raise no flag of CA2, SR or CB2 (R191 to R193). -/
theorem ticked_quiet (h : x.Quiet) (n : Nat) : (x.ticked n).Quiet := by
  have hflags : (x.ticked n).ifr &&& 0b0001101#7 = x.ifr &&& 0b0001101#7 :=
    ticked_ifr_and_not_tickFlags x n
  refine ⟨hflags.trans h.unraised, ?_, ?_⟩ <;> rw [ticked_eq]
  · exact h.ca2Prev
  · exact h.cb2Prev

theorem setLine_quiet (h : x.Quiet) (l : Line) (b : Bool) : (x.setLine l b).Quiet := by
  rw [setLine_frame]
  exact ⟨h.unraised, h.ca2Prev, h.cb2Prev⟩

theorem setPort_quiet (h : x.Quiet) (p : Port) (d : Byte) : (x.setPort p d).Quiet := by
  rw [setPort_frame]
  exact ⟨h.unraised, h.ca2Prev, h.cb2Prev⟩

/-- An overlap leaves of the dispatch's VIA all but IFR (R242). -/
theorem raced_frame (after before : Via) (r : Reg) (free : Flags) :
    after.raced before r free = { after with ifr := (after.raced before r free).ifr } := by
  unfold Via.raced
  split <;> rfl

/-- The flags an overlap leaves: the dispatch's, or some of those set before or that TICK sets (R242). -/
theorem raced_ifr (after before : Via) (r : Reg) (free : Flags) :
    (after.raced before r free).ifr = after.ifr ∨
      (after.raced before r free).ifr = free &&& (before.ifr ||| tickFlags) := by
  unfold Via.raced
  split
  · exact .inl rfl
  · exact .inr rfl

theorem raced_quiet {after before : Via} (h : after.Quiet) (hb : before.Quiet) (r : Reg) (free : Flags) :
    (after.raced before r free).Quiet := by
  have hflags : (after.raced before r free).ifr &&& 0b0001101#7 = 0#7 := by
    obtain hifr | hifr := raced_ifr after before r free <;> rw [hifr]
    · exact h.unraised
    · have hset : (before.ifr ||| tickFlags) &&& 0b0001101#7 = 0#7 := by
        rw [BitVec.and_or_distrib_right, hb.unraised]
        rfl
      rw [BitVec.and_comm free]
      exact and_and_eq_zero hset
  rw [raced_frame]
  exact ⟨hflags, h.ca2Prev, h.cb2Prev⟩

/-- Every outcome of an operation at a VIA keeps it quiet. -/
theorem ViaOutcome.quiet {s : State} {i : Instr} {v : ViaId} (h : ViaOutcome s i v x)
    (hq : (s.via v).Quiet) : x.Quiet := by
  cases h with
  | kept => exact hq
  | read r => exact dropFlags_quiet hq _
  | write r d => exact writeReg_quiet hq r d
  | tick n => exact ticked_quiet hq _
  | reset => exact zero_quiet
  | setLine l b => exact setLine_quiet hq l b
  | setPort p d => exact setPort_quiet hq p d

end Quiet

section DispatchVias

/-! ### The VIAs through the drain, the keyboard push and the TICKs (R232) -/

/-- A property of VIAs that every WRITE_REG keeps holds of both VIAs after the drain. -/
theorem drain_via_keep {P : ViaId → Via → Prop} (hwrite : ∀ v x r d, P v x → P v (x.writeReg r d))
    {s : State} (h : ∀ v, P v (s.via v)) (v : ViaId) : P v (s.drain.via v) := by
  refine applyEntries_keep (P := fun t => ∀ v, P v (t.via v)) (fun t u r d ht v => ?_) s.mbox _
    (fun v => ?_) v
  · rw [via_setVia]
    split
    case isTrue hv => rw [hv]; exact hwrite _ _ _ _ (ht u)
    case isFalse => exact ht v
  · cases v <;> exact h _

/-- The keyboard push keeps what SET_PORT keeps. -/
theorem kbdStep_via_keep {P : ViaId → Via → Prop} (hport : ∀ v x p d, P v x → P v (x.setPort p d))
    {s : State} (h : ∀ v, P v (s.via v)) (m : KeyMatrix) (v : ViaId) : P v ((s.kbdStep m).via v) := by
  rw [State.kbdStep]
  split
  case isTrue =>
    rw [State.kbdPush, via_setVia]
    split
    case isTrue hv => rw [hv]; exact hport _ _ _ _ (h _)
    case isFalse => exact h v
  case isFalse => exact h v

/-- The dispatch phase ticks the VIAs the setup has, and leaves the other as the push leaves it (R8, R232). -/
theorem dispatchPhase_via (s : State) (m : KeyMatrix) (n : Nat) (v : ViaId) :
    (s.dispatchPhase m n).via v =
      if isTicked s.setup v = true then ((s.drain.kbdStep m).via v).ticked n
      else (s.drain.kbdStep m).via v := by
  cases v with
  | via1 => exact dispatchPhase_via1 s m n
  | via2 =>
    simp only [isTicked, decide_eq_true_eq]
    exact dispatchPhase_via2 s m n

theorem dispatchPhase_quiet {s : State} (h : ∀ v, (s.via v).Quiet) (m : KeyMatrix) (n : Nat) (v : ViaId) :
    ((s.dispatchPhase m n).via v).Quiet := by
  have hpush : ((s.drain.kbdStep m).via v).Quiet :=
    kbdStep_via_keep (P := fun _ => Via.Quiet) (fun _ _ p d hq => setPort_quiet hq p d)
      (drain_via_keep (P := fun _ => Via.Quiet) (fun _ _ r d hq => writeReg_quiet hq r d) h) m v
  rw [dispatchPhase_via]
  split
  · exact ticked_quiet hpush n
  · exact hpush

end DispatchVias

section Invariant

/-! ### The invariant within a tick -/

/-- The invariant without its lock-step clause, which the bus phase of a write breaks until the drain. -/
structure InvInTick (s : State) : Prop where
  memory : s.mem.wf = true
  setup : s.setup.check = none
  fits : s.mbox.length ≤ s.setup.mailboxCapacity
  mapped : ∀ e ∈ s.mbox, classify s.pt e.addr = .mappedIO ∧ (ioDecode s.setup e.addr).isSome = true
  caughtUp : s.dispatched ≤ s.ticks
  quiet : ∀ v, (s.via v).Quiet

variable {s t : State}

theorem InvInTick.of_inv (h : s.Inv) : InvInTick s where
  memory := h.memory
  setup := h.setup
  fits := h.fits
  mapped := h.mapped
  caughtUp := h.caughtUp
  quiet := fun
    | .via1 => h.quiet1
    | .via2 => h.quiet2

theorem InvInTick.inv (h : InvInTick s) (hl : s.setup.lockstep = true → s.mbox = []) : s.Inv where
  memory := h.memory
  setup := h.setup
  fits := h.fits
  mapped := h.mapped
  lockstep := hl
  caughtUp := h.caughtUp
  quiet1 := h.quiet .via1
  quiet2 := h.quiet .via2

/-- Which inputs wait plays no part in the invariant. -/
theorem InvInTick.with_inputs (h : InvInTick s) (is : List Input) :
    InvInTick { s with inputs := is } :=
  ⟨h.memory, h.setup, h.fits, h.mapped, h.caughtUp, h.quiet⟩

theorem one_le_mailboxCapacity {p : Setup} (h : p.check = none) : 1 ≤ p.mailboxCapacity := by
  obtain ⟨-, -, hcap, -, -⟩ := check_eq_none_iff.1 h
  exact Nat.not_lt.1 hcap

/-- Every operation keeps the invariant, but for its lock-step clause. -/
theorem InvInTick.exec {i : Instr} (h : InvInTick s) (hexec : exec i s = .next t) : InvInTick t := by
  obtain ⟨hpt, hticks, hdispatched, -⟩ := exec_frame hexec
  obtain ⟨-, hsetup⟩ := exec_irq_setup hexec
  have hmemory : t.mem.wf = true := by
    obtain hmem | ⟨a, d, -, -, hmem⟩ := exec_mem hexec <;> rw [hmem]
    · exact h.memory
    · exact Memory.write_wf h.memory a d
  have hmbox : t.mbox.length ≤ s.setup.mailboxCapacity ∧
      ∀ e ∈ t.mbox, classify s.pt e.addr = .mappedIO ∧ (ioDecode s.setup e.addr).isSome = true := by
    obtain hmbox | ⟨a, d, hc, hd, hmbox⟩ := exec_mbox hexec <;> rw [hmbox]
    · exact ⟨h.fits, h.mapped⟩
    · refine ⟨pushEntry_length _ (one_le_mailboxCapacity h.setup) h.fits, fun e he => ?_⟩
      obtain he | rfl := mem_pushEntry he
      · exact h.mapped e he
      · exact ⟨hc, hd⟩
  obtain ⟨hfits, hmapped⟩ := hmbox
  constructor
  case memory => exact hmemory
  case setup => rw [hsetup]; exact h.setup
  case fits => rw [hsetup]; exact hfits
  case mapped => rw [hsetup, hpt]; exact hmapped
  case caughtUp => rw [hticks, hdispatched]; exact h.caughtUp
  case quiet => exact fun v => (exec_viaOutcome hexec v).quiet (h.quiet v)

/-- A dispatch phase restores the whole invariant: the drain empties the mailbox (R233). -/
theorem InvInTick.dispatchPhase (h : InvInTick s) (m : KeyMatrix) (n : Nat) :
    (s.dispatchPhase m n).Inv := by
  obtain ⟨hmem, -, hmbox, hticks, hdispatched, hsetup, -⟩ := dispatchPhase_frame s m n
  refine InvInTick.inv ?_ fun _ => hmbox
  constructor
  case memory => rw [hmem]; exact h.memory
  case setup => rw [hsetup]; exact h.setup
  case fits => rw [hmbox]; exact Nat.zero_le _
  case mapped => rw [hmbox]; exact fun e he => absurd he List.not_mem_nil
  case caughtUp => rw [hticks, hdispatched]; exact h.caughtUp
  case quiet => exact dispatchPhase_quiet h.quiet m n

/-! ### The parts of a step that follow an operation or a dispatch phase -/

theorem inv_countTick (h : s.Inv) : s.countTick.Inv :=
  ⟨h.memory, h.setup, h.fits, h.mapped, h.lockstep, h.caughtUp.trans (Nat.le_succ _), h.quiet1, h.quiet2⟩

theorem InvInTick.afterBusPhase (h : InvInTick s) (m : KeyMatrix) : (s.afterBusPhase m).Inv := by
  rw [State.afterBusPhase]
  split
  case isTrue => exact inv_countTick (h.dispatchPhase m 1)
  case isFalse hl => exact inv_countTick (h.inv fun hl' => absurd hl' hl)

/-- No DISPATCH_STEP runs ahead of the ticks (R241). -/
theorem dispatched_add_dispatchAdvance_le (h : s.dispatched < s.ticks) :
    s.dispatched + s.dispatchAdvance ≤ s.ticks := by
  rw [State.dispatchAdvance]
  split <;> omega

theorem InvInTick.dispatchStep (h : InvInTick s) (hdue : s.dispatchDue = true) (m : KeyMatrix) :
    (s.dispatchStep m).Inv := by
  have hphase := h.dispatchPhase m s.dispatchAdvance
  obtain ⟨-, -, -, hticks, -⟩ := dispatchPhase_frame s m s.dispatchAdvance
  have hle : s.dispatched + s.dispatchAdvance ≤ (s.dispatchPhase m s.dispatchAdvance).ticks :=
    hticks.symm ▸ dispatched_add_dispatchAdvance_le (dispatchDue_iff.1 hdue).2
  exact ⟨hphase.memory, hphase.setup, hphase.fits, hphase.mapped, hphase.lockstep, hle, hphase.quiet1,
    hphase.quiet2⟩

theorem inv_setVia (h : s.Inv) {v : ViaId} {x : Via} (hx : x.Quiet) : (s.setVia v x).Inv := by
  cases v with
  | via1 => exact ⟨h.memory, h.setup, h.fits, h.mapped, h.lockstep, h.caughtUp, hx, h.quiet2⟩
  | via2 => exact ⟨h.memory, h.setup, h.fits, h.mapped, h.lockstep, h.caughtUp, h.quiet1, hx⟩

theorem InvInTick.overlapStep (h : InvInTick s) (hdue : s.dispatchDue = true) (v : ViaId) (r : Reg)
    (m : KeyMatrix) : (s.overlapStep v r m).Inv := by
  have hserial := inv_countTick (h.dispatchStep hdue m)
  have hrace := inv_setVia hserial (v := v)
    (raced_quiet ((InvInTick.of_inv hserial).quiet v) (h.quiet v) r (Config.freeFlags s.draws))
  exact ⟨hrace.memory, hrace.setup, hrace.fits, hrace.mapped, hrace.lockstep, hrace.caughtUp,
    hrace.quiet1, hrace.quiet2⟩

theorem InvInTick.shutdownQuantum (h : InvInTick s) (m : KeyMatrix) : (s.shutdownQuantum m).Inv := by
  have hphase := h.dispatchPhase m 1
  exact ⟨hphase.memory, hphase.setup, hphase.fits, hphase.mapped, hphase.lockstep, hphase.caughtUp,
    hphase.quiet1, hphase.quiet2⟩

end Invariant

/-- Settles O48: the mailbox is empty, the counts are 0 and both VIAs are canonical at launch. -/
theorem launchStatesMeetTheInvariant : Obligations.LaunchStatesMeetTheInvariant := by
  have hlaunch (p : Setup) (pt : PageTable) (image : Memory) (hp : p.check = none)
      (hwf : image.wf = true) : (State.launch p pt image).Inv :=
    { memory := hwf
      setup := hp
      fits := Nat.zero_le _
      mapped := fun _ he => absurd he List.not_mem_nil
      lockstep := fun _ => rfl
      caughtUp := le_rfl
      quiet1 := zero_quiet
      quiet2 := zero_quiet }
  exact ⟨hlaunch _ _ _ (by decide) Memory.empty_wf, hlaunch⟩

/-- Settles O49: each input's part of the step keeps the invariant; a call posts nothing, and every other step
that ends a tick drains the mailbox or is relaxed. -/
theorem everyStepKeepsTheInvariant : Obligations.EveryStepKeepsTheInvariant := by
  intro s t hinv h
  have hin (rest : List Input) : InvInTick { s with inputs := rest } :=
    (InvInTick.of_inv hinv).with_inputs rest
  obtain ⟨-, ⟨-, rfl⟩ | ⟨w, m, rest, u, -, hu, rfl⟩ | ⟨v, w, rest, i, -, hd, hexec⟩ |
    ⟨m, rest, -, hdue, rfl⟩ | ⟨w, m, rest, v, r, -, hdue, -, rfl⟩ | ⟨m, rest, -, rfl⟩⟩ :=
    step_next_cases h
  · exact hinv
  · exact ((hin rest).exec hu).afterBusPhase m
  · obtain ⟨-, henc⟩ := encode_of_decodeViaop hd
    obtain ⟨hcall, -⟩ := callsAreConfinedToTheirInstance
    obtain ⟨-, -, -, -, hmbox, -, -, -, hsetup, -⟩ := hcall i v w _ t henc hexec
    refine ((hin rest).exec hexec).inv fun hl => ?_
    rw [hmbox]
    rw [hsetup] at hl
    exact hinv.lockstep hl
  · exact (hin rest).dispatchStep hdue m
  · exact (hin rest).overlapStep hdue v r m
  · exact (hin rest).shutdownQuantum m

section Overlaps

/-! ### What a DISPATCH_STEP and an overlap leave of the flags (R242) -/

variable {s : State}

/-- The flags of `f` are among those of `g`. -/
theorem and_not_eq_zero_trans {f g m : Flags} (h : f &&& ~~~g = 0#7) : f &&& ~~~(g ||| m) = 0#7 := by
  rw [BitVec.not_or, ← BitVec.and_assoc, h, BitVec.zero_and]

/-- Before the TICKs of a dispatch phase no flag of a VIA is set that was not set before: the drain only clears
flags, and the keyboard push leaves them. -/
theorem drain_kbdStep_ifr (s : State) (m : KeyMatrix) (v : ViaId) :
    ((s.drain.kbdStep m).via v).ifr &&& ~~~(s.via v).ifr = 0#7 := by
  refine kbdStep_via_keep (P := fun v x => x.ifr &&& ~~~(s.via v).ifr = 0#7) (fun v x p d hx => ?_)
    (drain_via_keep (P := fun v x => x.ifr &&& ~~~(s.via v).ifr = 0#7) (fun v x r d hx => ?_)
      fun v => BitVec.and_not_self _) m v
  · rw [setPort_frame]
    exact hx
  · rw [writeReg_flags]
    exact and_and_eq_zero hx

/-- A dispatch phase raises no flag but those TICK sets. -/
theorem dispatchPhase_ifr (s : State) (m : KeyMatrix) (n : Nat) (v : ViaId) :
    ((s.dispatchPhase m n).via v).ifr &&& ~~~((s.via v).ifr ||| tickFlags) = 0#7 := by
  have hpush := drain_kbdStep_ifr s m v
  rw [dispatchPhase_via]
  split
  case isTrue =>
    rw [BitVec.not_or, BitVec.and_comm (~~~_), ← BitVec.and_assoc, ticked_ifr_and_not_tickFlags]
    exact and_and_eq_zero hpush
  case isFalse => exact and_not_eq_zero_trans hpush

/-- The flags an overlap leaves were set before or are ones TICK sets. -/
theorem raced_dispatchStep_ifr (s : State) (v : ViaId) (r : Reg) (m : KeyMatrix) (free : Flags) :
    (((s.dispatchStep m).via v).raced (s.via v) r free).ifr &&& ~~~((s.via v).ifr ||| tickFlags) =
      0#7 := by
  obtain hifr | hifr := raced_ifr ((s.dispatchStep m).via v) (s.via v) r free <;> rw [hifr]
  · have hphase := dispatchPhase_ifr s m s.dispatchAdvance v
    cases v <;> exact hphase
  · rw [BitVec.and_assoc, BitVec.and_not_self]
    exact BitVec.and_zero

/-- A read that acknowledges nothing has no part in the race (R242). -/
theorem raced_of_readAckMask_zero {r : Reg} (h : readAckMask r = 0#7) (after before : Via)
    (free : Flags) : after.raced before r free = after := if_pos h

theorem overlapStep_via (s : State) (v : ViaId) (r : Reg) (m : KeyMatrix) :
    (s.overlapStep v r m).via v =
      ((s.dispatchStep m).via v).raced (s.via v) r (Config.freeFlags s.draws) := by
  cases v <;> rfl

/-- An overlap is the DISPATCH_STEP and the count of the bus step, but for the VIA read, the result, IRQ and the
draw (R242). -/
theorem overlapStep_eq (s : State) (v : ViaId) (r : Reg) (m : KeyMatrix) :
    s.overlapStep v r m = { (s.dispatchStep m).setVia v ((s.overlapStep v r m).via v) with
      result := .byte (Config.freeByte s.draws), irq := (s.overlapStep v r m).irqLevel
      ticks := s.ticks + 1, draws := s.draws + 1 } := by
  obtain ⟨-, -, -, hticks, -⟩ := dispatchPhase_frame s m s.dispatchAdvance
  rw [← hticks]
  cases v <;> rfl

theorem runInput_overlap_next {s t : State} {w : BusWord} {m : KeyMatrix}
    (h : runInput (.overlap w m) s = .next t) :
    ∃ v r, viaRead s w = some (v, r) ∧ t = s.overlapStep v r m := by
  rw [runInput, runOverlap] at h
  split at h
  next v r _ hread => cases h; exact ⟨v, r, hread, rfl⟩
  next => cases h
  next => cases h

end Overlaps

/-- Settles O46: the overlap as the two steps one after the other, with the VIA read, IRQ and the draw apart. -/
theorem overlapLeavesTheRestSerial : Obligations.OverlapLeavesTheRestSerial := by
  intro s t w m rest hi h
  obtain ⟨v, r, hread, ht⟩ := runInput_overlap_next (runInput_of_step hi h)
  have hvia := (congrArg (State.via · v) ht).trans (overlapStep_via _ v r m)
  refine ⟨v, r, hread, _, Config.freeByte s.draws, rfl, ?serial, fun hmask => ?plain, ?limit⟩
  case serial =>
    rw [hvia, ← raced_frame, ← hvia, ht]
    exact overlapStep_eq _ v r m
  case plain => rw [hvia, raced_of_readAckMask_zero hmask]
  case limit =>
    rw [hvia]
    exact raced_dispatchStep_ifr _ v r m _

end Sys2Proof.Proofs

/-! PROOFS of the family other, ticks: a relabelling of the parts of a state that no operation reads, which
compares runs of the two modes and of two capacities (R74, R241), and the run of a tick's inputs (R230). -/

namespace Sys2Proof.Proofs

open Sys2Proof Sys2Proof.Machine

section Relabelling

/-! ### The parts of a state that neither an operation nor the dispatch phase reads -/

/-- A change of the mode (R11), the mailbox capacity (R10), the counts (R49, R241) and the inputs waiting. -/
structure Relabel where
  lockstep : Bool → Bool := id
  capacity : Nat → Nat := id
  ticks : Nat → Nat := id
  dispatched : Nat → Nat := id
  inputs : List Input → List Input := id

/-- The state with those parts changed. -/
def Relabel.apply (f : Relabel) (s : State) : State :=
  { s with
    ticks := f.ticks s.ticks
    dispatched := f.dispatched s.dispatched
    inputs := f.inputs s.inputs
    setup := { s.setup with
      lockstep := f.lockstep s.setup.lockstep
      mailboxCapacity := f.capacity s.setup.mailboxCapacity } }

variable (f : Relabel) (s : State) {t : State} {i : Instr}

theorem relabel_via (v : ViaId) : (f.apply s).via v = s.via v := by cases v <;> rfl

theorem relabel_setVia (v : ViaId) (x : Via) : (f.apply s).setVia v x = f.apply (s.setVia v x) := by
  cases v <;> rfl

theorem relabel_callReturns (v : ViaId) (r : Result) (x : Via) :
    (f.apply s).callReturns v r x = f.apply (s.callReturns v r x) := by
  cases v <;> rfl

theorem relabel_busRd (a : Addr) : exec (.busRd a) (f.apply s) = .next (f.apply (s.busRd a)) := by
  obtain ⟨hc, h⟩ | ⟨hc, hd, h⟩ | ⟨v, r, hc, hd, h⟩ := busRd_cases s a <;> rw [h]
  · exact exec_busRd_of_not_mappedIO (s := f.apply s) hc
  · exact exec_busRd_of_unmapped (s := f.apply s) hc hd
  · refine (exec_busRd_of_mapped (s := f.apply s) hc hd).trans (congrArg _ ?_)
    rw [State.rdVia, State.readCall, relabel_via, relabel_callReturns, State.rdVia, State.readCall]

variable {f s}

/-- A write cycle reads the capacity alone, and an empty mailbox has room whatever it is (R74). -/
theorem relabel_busWr (hcap : f.capacity s.setup.mailboxCapacity = s.setup.mailboxCapacity ∨ s.mbox = [])
    (a : Addr) (d : Byte) : exec (.busWr a d) (f.apply s) = .next (f.apply (s.busWr a d)) := by
  have hpush : (f.apply s).enqueue a d = f.apply (s.enqueue a d) := by
    have hmbox : pushEntry (f.capacity s.setup.mailboxCapacity) s.mbox ⟨a, d⟩ =
        pushEntry s.setup.mailboxCapacity s.mbox ⟨a, d⟩ := by
      obtain h | h := hcap <;> rw [h]
      rw [pushEntry_nil, pushEntry_nil]
    simp only [State.enqueue, Relabel.apply, hmbox]
  obtain ⟨hc, h⟩ | ⟨hc, h⟩ | ⟨hc, hd, h⟩ | ⟨p, hc, hd, h⟩ := busWrStore_cases s a d <;>
    rw [State.busWr, h]
  · exact exec_busWr_of_ram (s := f.apply s) hc
  · exact exec_busWr_of_rom (s := f.apply s) hc
  · exact exec_busWr_of_unmapped (s := f.apply s) hc hd
  · refine (exec_busWr_of_mapped (s := f.apply s) hc (Option.isSome_iff_exists.2 ⟨p, hd⟩)).trans ?_
    exact congrArg (fun u : State => Host.Outcome.next
      { u with mem := (s.storeByte a d).mem, result := .none }) hpush

/-- An operation is a bus cycle or a call (R90, R93). -/
theorem instr_bus_or_call (i : Instr) :
    (∃ a, i = .busRd a) ∨ (∃ a d, i = .busWr a d) ∨ ∃ v w, encode i = .call v w := by
  cases instrForm i with
  | busRd a => exact .inl ⟨a, rfl⟩
  | busWr a d => exact .inr (.inl ⟨a, d, rfl⟩)
  | readReg v r => exact .inr (.inr ⟨v, _, encode_readInstr v r⟩)
  | writeReg v d r => exact .inr (.inr ⟨v, _, encode_writeInstr v d r⟩)
  | tick v n => exact .inr (.inr ⟨v, _, rfl⟩)
  | reset v => exact .inr (.inr ⟨v, _, rfl⟩)
  | setLine v b l => exact .inr (.inr ⟨v, _, encode_setLineInstr v l b⟩)
  | getLine v l => exact .inr (.inr ⟨v, _, encode_getLineInstr v l⟩)
  | setPort v d p => exact .inr (.inr ⟨v, _, encode_setPortInstr v p d⟩)
  | getPort v p => exact .inr (.inr ⟨v, _, encode_getPortInstr v p⟩)

/-- An operation answers the relabelled state from the relabelled one. -/
theorem relabel_exec
    (hcap : f.capacity s.setup.mailboxCapacity = s.setup.mailboxCapacity ∨ s.mbox = [])
    (h : exec i s = .next t) : exec i (f.apply s) = .next (f.apply t) := by
  obtain ⟨a, rfl⟩ | ⟨a, d, rfl⟩ | ⟨v, w, henc⟩ := instr_bus_or_call i
  · cases h; exact relabel_busRd f s a
  · cases h; exact relabel_busWr hcap a d
  · obtain ⟨g, hg⟩ := exec_of_encode_call henc
    cases (hg s).symm.trans h
    rw [hg, relabel_via, relabel_callReturns]

variable (f s)

theorem relabel_applyEntry (e : Entry) : (f.apply s).applyEntry e = f.apply (s.applyEntry e) := by
  obtain hd | ⟨⟨v, r⟩, hd⟩ := Option.eq_none_or_eq_some (ioDecode s.setup e.addr)
  · rw [applyEntry_of_unmapped s hd]
    exact applyEntry_of_unmapped (f.apply s) hd
  · rw [applyEntry_of_mapped s hd, ← relabel_setVia, ← relabel_via f s v]
    exact applyEntry_of_mapped (f.apply s) hd

theorem relabel_drain : (f.apply s).drain = f.apply s.drain :=
  List.foldl_hom (l := s.mbox) (init := { s with mbox := [] }) f.apply
    fun t e => relabel_applyEntry f t e

theorem relabel_kbdStep (m : KeyMatrix) : (f.apply s).kbdStep m = f.apply (s.kbdStep m) := by
  cases hk : s.setup.kbdEnable with
  | true =>
    rw [kbdStep_of_enabled s m hk, kbdStep_of_enabled (f.apply s) m hk, State.kbdPush, relabel_via]
    exact relabel_setVia f s _ _
  | false => rw [kbdStep_of_disabled s m hk, kbdStep_of_disabled (f.apply s) m hk]

theorem relabel_dispatchPhase (m : KeyMatrix) (n : Nat) :
    (f.apply s).dispatchPhase m n = f.apply (s.dispatchPhase m n) := by
  rw [State.dispatchPhase, relabel_drain, relabel_kbdStep]
  rfl

end Relabelling

section Capacity

/-! ### The mailbox capacity in lock-step (R74) -/

/-- The relabelling that replaces the capacity. -/
def capacityTo (c : Nat) : Relabel := { capacity := fun _ => c }

theorem check_withCapacity {s : State} {c : Nat} (hc : 1 ≤ c) (h : s.setup.check = none) :
    (s.withCapacity c).setup.check = none := by
  obtain ⟨hcount, hblock, -, hports, hvia⟩ := check_eq_none_iff.1 h
  exact check_eq_none_iff.2 ⟨hcount, hblock, Nat.not_lt.2 hc, hports, hvia⟩

theorem withCapacity_shutdownQuantum (s : State) (c : Nat) (m : KeyMatrix) :
    (s.withCapacity c).shutdownQuantum m = (s.shutdownQuantum m).withCapacity c :=
  congrArg (fun u : State => { u with inputs := [] }) (relabel_dispatchPhase (capacityTo c) s m 1)

end Capacity

/-- Settles O55: in lock-step every step that can follow drains an empty mailbox or one with a single entry, and
its state with another capacity is a relabelling. -/
theorem capacityIsUnobservableInLockstep : Obligations.CapacityIsUnobservableInLockstep := by
  intro s t c hl hmbox hc h
  have hnotDue : s.dispatchDue ≠ true := fun hdue =>
    ne_true_of_eq_false (dispatchDue_iff.1 hdue).1 hl
  obtain ⟨hcheck, ⟨hi, rfl⟩ | ⟨w, m, rest, u, hi, hu, rfl⟩ | ⟨v, w, rest, i, hi, hd, hexec⟩ |
    ⟨m, rest, -, hdue, -⟩ | ⟨w, m, rest, v, r, -, hdue, -, -⟩ | ⟨m, rest, hi, rfl⟩⟩ :=
    step_next_cases h
  · exact ⟨hmbox, step_of_idle (check_withCapacity hc hcheck) hi⟩
  · obtain ⟨-, hsetup⟩ := exec_irq_setup hu
    have hlu : u.setup.lockstep = true := by rw [hsetup]; exact hl
    have hu' : exec (decodeBus w) ((capacityTo c).apply { s with inputs := rest }) = .next _ :=
      relabel_exec (.inr hmbox) hu
    obtain ⟨-, -, hempty, -⟩ := dispatchPhase_frame u m 1
    rw [afterBusPhase_of_lockstep hlu]
    refine ⟨hempty, (step_of_inputs (check_withCapacity hc hcheck) hi).trans
      ((runInput_bus_of_exec hu').trans (congrArg _ ?_))⟩
    rw [afterBusPhase_of_lockstep (s := (capacityTo c).apply u) hlu, relabel_dispatchPhase]
    rfl
  · obtain ⟨-, henc⟩ := encode_of_decodeViaop hd
    obtain ⟨hcall, -⟩ := callsAreConfinedToTheirInstance
    obtain ⟨-, -, -, -, hkept, -⟩ := hcall i v w _ t henc hexec
    have hexec' : exec i ((capacityTo c).apply { s with inputs := rest }) = .next _ :=
      relabel_exec (.inr hmbox) hexec
    exact ⟨hkept.trans hmbox, (step_of_inputs (check_withCapacity hc hcheck) hi).trans
      ((runInput_call_of_ok _ hd).trans hexec')⟩
  · exact absurd hdue hnotDue
  · exact absurd hdue hnotDue
  · obtain ⟨-, -, hempty, -⟩ := dispatchPhase_frame { s with inputs := rest } m 1
    exact ⟨hempty, (step_of_inputs (check_withCapacity hc hcheck) hi).trans
      (congrArg Host.Outcome.next (withCapacity_shutdownQuantum { s with inputs := rest } c m))⟩

section HostRuns

/-! ### Runs of steps, and of the inputs of a tick (R230, R235) -/

/-- A run takes its first step, then the rest. -/
theorem run_succ {k : Nat} {s t : State} (h : step s = .next t) : core.run (k + 1) s = core.run k t := by
  have hstep : core.step s = .next t := h
  simp only [Host.Core.run, hstep]

/-- A run of a sum is a run, then a run from the state it answers. -/
theorem run_add {j k : Nat} {s t : State} (h : core.run j s = .next t) :
    core.run (j + k) s = core.run k t := by
  induction j generalizing s with
  | zero =>
    cases h
    rw [Nat.zero_add]
  | succ j ih =>
    rw [Nat.succ_add]
    simp only [Host.Core.run] at h ⊢
    cases hs : core.step s with
    | next u => rw [hs] at h; exact ih h
    | fault r => rw [hs] at h; cases h
    | refused r => rw [hs] at h; cases h

/-- The relabelling that replaces the inputs waiting. -/
def inputsTo (is : List Input) : Relabel := { inputs := fun _ => is }

/-- A host event takes no input and reads none. -/
theorem apply_with_inputs (s : State) (e : HostEvent) (is : List Input) :
    HostEvent.apply { s with inputs := is } e = { HostEvent.apply s e with inputs := is } := by
  have h : exec e.toInstr ((inputsTo is).apply s) = .next _ :=
    relabel_exec (.inl rfl) (exec_toInstr s e)
  exact Host.Outcome.next.inj ((exec_toInstr _ e).symm.trans h)

theorem apply_setup_inputs (s : State) (e : HostEvent) :
    (HostEvent.apply s e).setup = s.setup ∧ (HostEvent.apply s e).inputs = s.inputs := by
  obtain ⟨-, hsetup⟩ := exec_irq_setup (exec_toInstr s e)
  obtain ⟨-, -, -, hinputs⟩ := exec_frame (exec_toInstr s e)
  exact ⟨hsetup, hinputs⟩

theorem foldl_apply_with_inputs (es : List HostEvent) (s : State) (is : List Input) :
    es.foldl HostEvent.apply { s with inputs := is } =
      { es.foldl HostEvent.apply s with inputs := is } :=
  List.foldl_hom (inputsTo is).apply fun t e => apply_with_inputs t e is

theorem foldl_apply_setup_inputs (es : List HostEvent) (s : State) :
    (es.foldl HostEvent.apply s).setup = s.setup ∧ (es.foldl HostEvent.apply s).inputs = s.inputs := by
  induction es generalizing s with
  | nil => exact ⟨rfl, rfl⟩
  | cons e es ih =>
    obtain ⟨hsetup, hinputs⟩ := ih (HostEvent.apply s e)
    obtain ⟨hsetup', hinputs'⟩ := apply_setup_inputs s e
    exact ⟨hsetup.trans hsetup', hinputs.trans hinputs'⟩

theorem toInstr_wf (e : HostEvent) : e.toInstr.wf = true := by
  cases e with
  | setLine v l b => exact setLineInstr_wf v b l
  | setPort v p d => exact setPortInstr_wf v d p
  | reset v => rfl
  | getLine v l => exact getLineInstr_wf v l
  | getPort v p => exact getPortInstr_wf v p

theorem encode_toInstr (e : HostEvent) : ∃ v w, encode e.toInstr = .call v w := by
  cases e with
  | setLine v l b => exact ⟨v, _, encode_setLineInstr v l b⟩
  | setPort v p d => exact ⟨v, _, encode_setPortInstr v p d⟩
  | reset v => exact ⟨v, _, rfl⟩
  | getLine v l => exact ⟨v, _, encode_getLineInstr v l⟩
  | getPort v p => exact ⟨v, _, encode_getPortInstr v p⟩

variable {s : State} {m : KeyMatrix} {rest : List Input}

/-- The step that takes a host event is the event (R235). -/
theorem step_of_hostEvent {e : HostEvent} (hc : s.setup.check = none)
    (hi : s.inputs = offered m (encode e.toInstr) :: rest) :
    step s = .next (HostEvent.apply { s with inputs := rest } e) := by
  obtain ⟨v, w, henc⟩ := encode_toInstr e
  have hdec : decode (encode e.toInstr) = .ok e.toInstr := decodeOfEncodeIsTheOperation _ (toInstr_wf e)
  rw [henc] at hi hdec
  exact (step_of_inputs hc hi).trans ((runInput_call_of_ok _ hdec).trans (exec_toInstr _ e))

/-- The host events of a tick are taken one by one, in order. -/
theorem run_hostEvents {es : List HostEvent} (hc : s.setup.check = none)
    (hi : s.inputs = es.map (fun e => offered m (encode e.toInstr)) ++ rest) :
    core.run es.length s = .next (es.foldl HostEvent.apply { s with inputs := rest }) := by
  induction es generalizing s with
  | nil => subst hi; rfl
  | cons e es ih =>
    obtain ⟨hsetup, hinputs⟩ := apply_setup_inputs
      { s with inputs := es.map (fun e => offered m (encode e.toInstr)) ++ rest } e
    refine (run_succ (step_of_hostEvent hc hi)).trans ((ih ?_ hinputs).trans ?_)
    · rw [hsetup]; exact hc
    · rw [← apply_with_inputs]; rfl

/-- The bus cycle of a tick is its bus phase (R231). -/
theorem exec_cycle (ti : TickInput) (s : State) :
    exec ti.cycle s = .next (s.busPhase ti.addr ti.isRead ti.data) := by
  rw [TickInput.cycle, State.busPhase]
  split <;> rfl

/-- The step that takes the bus cycle of a tick is its bus phase and what follows it (R230, R231). -/
theorem step_of_cycle {ti : TickInput} (hc : s.setup.check = none) (hl : s.setup.lockstep = true)
    (hi : s.inputs = offered m (encode ti.cycle) :: rest) :
    step s = .next (((({ s with inputs := rest } : State).busPhase ti.addr ti.isRead ti.data).dispatchPhase
      m 1).countTick) := by
  have hcycle : ∃ w, encode ti.cycle = .bus w ∧ decodeBus w = ti.cycle := by
    unfold TickInput.cycle
    split
    · exact ⟨_, rfl, decodeBus_append 1#1 _ _⟩
    · exact ⟨_, rfl, decodeBus_append 0#1 _ _⟩
  obtain ⟨w, henc, hdec⟩ := hcycle
  have hexec : exec (decodeBus w) { s with inputs := rest } =
      .next (({ s with inputs := rest } : State).busPhase ti.addr ti.isRead ti.data) := by
    rw [hdec, exec_cycle]
  obtain ⟨-, hsetup⟩ := exec_irq_setup hexec
  rw [henc] at hi
  refine (step_of_inputs hc hi).trans ((runInput_bus_of_exec hexec).trans (congrArg _ ?_))
  exact afterBusPhase_of_lockstep (by rw [hsetup]; exact hl)

/-- The inputs of a tick end where its TICK_STEP ends. -/
theorem run_tick {ti : TickInput} (hc : s.setup.check = none) (hl : s.setup.lockstep = true)
    (hi : s.inputs = ti.inputs ++ rest) :
    core.run (ti.host.length + 1) s = .next (({ s with inputs := rest } : State).tickStep ti) := by
  rw [TickInput.inputs, List.append_assoc] at hi
  obtain ⟨hsetup, hinputs⟩ := foldl_apply_setup_inputs ti.host
    { s with inputs := [offered ti.matrix (encode ti.cycle)] ++ rest }
  refine (run_add (run_hostEvents hc hi)).trans ((run_succ (step_of_cycle ?_ ?_ hinputs)).trans ?_)
  · rw [hsetup]; exact hc
  · rw [hsetup]; exact hl
  · rw [← foldl_apply_with_inputs]; rfl

/-- TICK_STEP takes no input of its own and writes no setup. -/
theorem tickStep_setup_inputs (s : State) (ti : TickInput) :
    (s.tickStep ti).setup = s.setup ∧ (s.tickStep ti).inputs = s.inputs := by
  obtain ⟨hsetup, hinputs⟩ := foldl_apply_setup_inputs ti.host s
  obtain ⟨-, hsetup'⟩ := exec_irq_setup (exec_cycle ti (ti.host.foldl HostEvent.apply s))
  obtain ⟨-, -, -, hinputs'⟩ := exec_frame (exec_cycle ti (ti.host.foldl HostEvent.apply s))
  obtain ⟨-, -, -, -, -, hsetup'', hinputs'', -⟩ := dispatchPhase_frame
    ((ti.host.foldl HostEvent.apply s).busPhase ti.addr ti.isRead ti.data) ti.matrix 1
  exact ⟨hsetup''.trans (hsetup'.trans hsetup), hinputs''.trans (hinputs'.trans hinputs)⟩

theorem tickStep_with_inputs (s : State) (ti : TickInput) (is : List Input) :
    ({ s with inputs := is } : State).tickStep ti = { s.tickStep ti with inputs := is } := by
  have hcycle : exec ti.cycle ((inputsTo is).apply (ti.host.foldl HostEvent.apply s)) = .next _ :=
    relabel_exec (.inl rfl) (exec_cycle ti _)
  have hbus := Host.Outcome.next.inj ((exec_cycle ti _).symm.trans hcycle)
  rw [State.tickStep, foldl_apply_with_inputs]
  exact congrArg State.countTick ((congrArg (State.dispatchPhase · ti.matrix 1) hbus).trans
    (relabel_dispatchPhase (inputsTo is) _ ti.matrix 1))

/-- The inputs of a sequence of ticks end where its TICK_STEPs end. -/
theorem run_ticks {tis : List TickInput} (hc : s.setup.check = none) (hl : s.setup.lockstep = true)
    (hi : s.inputs = tis.flatMap TickInput.inputs ++ rest) :
    core.run (tis.map (fun ti => ti.host.length + 1)).sum s =
      .next (({ s with inputs := rest } : State).runTicks tis).2 := by
  induction tis generalizing s with
  | nil => subst hi; rfl
  | cons ti tis ih =>
    rw [List.flatMap_cons, List.append_assoc] at hi
    obtain ⟨hsetup, hinputs⟩ := tickStep_setup_inputs
      { s with inputs := tis.flatMap TickInput.inputs ++ rest } ti
    rw [List.map_cons, List.sum_cons]
    refine (run_add (run_tick hc hl hi)).trans ((ih ?_ ?_ hinputs).trans ?_)
    · rw [hsetup]; exact hc
    · rw [hsetup]; exact hl
    · rw [← tickStep_with_inputs]; rfl

end HostRuns

/-- Settles O37: the run of one tick's inputs, and of a sequence of ticks. -/
theorem stepsOfATickAreTickStep : Obligations.StepsOfATickAreTickStep :=
  ⟨fun _ _ _ hc hl hi => run_tick hc hl hi, fun _ _ _ hc hl hi => run_ticks hc hl hi⟩

section CaughtUp

/-! ### A relaxed tick that is dispatched at once (R241) -/

/-- The relabelling of a relaxed bus phase as one of lock-step with no input behind it. -/
def toLockstep : Relabel :=
  { lockstep := fun _ => true, dispatched := fun _ => 0, inputs := fun _ => [] }

/-- The relabelling of a BUS_STEP: the tick is counted, and the DISPATCH_STEP behind it is taken. -/
def toCounted : Relabel := { ticks := (· + 1), inputs := fun _ => [] }

/-- With a lag of one tick both advances are by one, and catch up. -/
theorem dispatchStep_of_lag_one {s : State} {m : KeyMatrix} (h : s.ticks = s.dispatched + 1) :
    s.dispatchStep m = { s.dispatchPhase m 1 with dispatched := s.ticks } := by
  cases hadv : s.setup.tickAdvance with
  | perTick => rw [dispatchStep_of_perTick hadv, h]
  | elapsed =>
    rw [dispatchStep_of_elapsed hadv (h.symm ▸ Nat.le_succ _), h, Nat.add_sub_cancel_left]

end CaughtUp

/-- Settles O45: both runs are the bus phase and one dispatch phase, each of a relabelled state. -/
theorem caughtUpRelaxedTickIsALockstepTick : Obligations.CaughtUpRelaxedTickIsALockstepTick := by
  intro s w m hc hl hlag
  obtain ⟨u, hu⟩ := exec_answers_next (decodeBus w) { s with inputs := [.dispatch m] }
  obtain ⟨-, hticks, hdispatched, hinputs⟩ := exec_frame hu
  obtain ⟨-, hsetup⟩ := exec_irq_setup hu
  have hlu : u.setup.lockstep = false := by rw [hsetup]; exact hl
  have hlag_u : u.dispatched = u.ticks := hdispatched.trans (hlag.trans hticks.symm)
  have hbusStep : step { s with inputs := [.bus w m, .dispatch m] } = .next u.countTick := by
    have hstep := step_of_inputs (s := { s with inputs := [.bus w m, .dispatch m] }) hc rfl
    rw [hstep, runInput_bus_of_exec hu, afterBusPhase_of_relaxed hlu]
  have hdispatchStep : step u.countTick = .next ((toCounted.apply u).dispatchStep m) := by
    have hcu : u.countTick.setup.check = none := by rw [countTick_setup, hsetup]; exact hc
    have hdue : (toCounted.apply u).dispatchDue = true :=
      dispatchDue_iff.2 ⟨hlu, hlag_u ▸ Nat.lt_succ_self _⟩
    exact (step_of_inputs hcu hinputs).trans (runInput_dispatch_of_due hdue)
  have hrelaxed : (toCounted.apply u).dispatchStep m =
      { toCounted.apply (u.dispatchPhase m 1) with dispatched := u.ticks + 1 } := by
    rw [dispatchStep_of_lag_one (congrArg (· + 1) hlag_u.symm), relabel_dispatchPhase]
    rfl
  have hlockstep : step { s.asLockstep with inputs := [.bus w m] } =
      .next (toLockstep.apply (u.dispatchPhase m 1)).countTick := by
    have hu' : exec (decodeBus w) (toLockstep.apply { s with inputs := [.dispatch m] }) = .next _ :=
      relabel_exec (.inl rfl) hu
    have hstep := step_of_inputs (s := { s.asLockstep with inputs := [.bus w m] }) hc rfl
    refine hstep.trans ((runInput_bus_of_exec hu').trans (congrArg _ ?_))
    rw [afterBusPhase_of_lockstep (s := toLockstep.apply u) rfl, relabel_dispatchPhase]
  refine ⟨_, (run_succ hbusStep).trans (run_succ hdispatchStep), ?caughtUp, ?lockstep⟩
  case caughtUp =>
    obtain ⟨-, -, -, hticks', -⟩ := dispatchPhase_frame u m 1
    rw [hrelaxed]
    exact congrArg (· + 1) hticks'.symm
  case lockstep =>
    rw [hlockstep, hrelaxed]
    rfl

end Sys2Proof.Proofs

/-! PROOFS of the family other, lock-step ticks: when a mapped write and a mapped read reach their VIA (R239,
R240), and that the second VIA does not reach the first (R24). -/

namespace Sys2Proof.Proofs

open Sys2Proof Sys2Proof.Machine

section TickOrder

/-! ### The VIAs through a lock-step tick (R230, R232) -/

variable {s p u : State} {m : KeyMatrix}

/-- The keyboard push reads the VIAs and the setup alone (R236). -/
theorem kbdStep_via_congr (hsetup : s.setup = p.setup) (hvia : ∀ v, s.via v = p.via v) (v : ViaId) :
    (s.kbdStep m).via v = (p.kbdStep m).via v := by
  cases hk : p.setup.kbdEnable with
  | true =>
    rw [kbdStep_of_enabled p m hk, kbdStep_of_enabled s m (hsetup ▸ hk), State.kbdPush, State.kbdPush,
      via_setVia, via_setVia, hsetup, hvia, hvia]
  | false => rw [kbdStep_of_disabled p m hk, kbdStep_of_disabled s m (hsetup ▸ hk), hvia]

/-- In an accepted setup the keyboard push leaves a VIA that the setup does not have (R12, R263). -/
theorem kbdStep_via_of_not_ticked (hc : s.setup.check = none) {v : ViaId}
    (hv : ¬isTicked s.setup v = true) : (s.kbdStep m).via v = s.via v := by
  cases hk : s.setup.kbdEnable with
  | false => rw [kbdStep_of_disabled s m hk]
  | true =>
    obtain ⟨haccepted, -⟩ := refusedSetupsHaveNoRun
    obtain ⟨-, -, -, -, hkbdVia⟩ := (haccepted s.setup).1 hc
    have hne : v ≠ s.setup.kbdVia := by
      rintro rfl
      cases hvia : s.setup.kbdVia with
      | via1 => exact hv (by rw [hvia]; rfl)
      | via2 => exact hv (by rw [hvia]; exact decide_eq_true (hkbdVia hk hvia))
    rw [kbdStep_of_enabled s m hk, State.kbdPush, via_setVia_other s _ hne]

/-- An address decodes to a VIA that the setup has (R8, R63). -/
theorem isTicked_of_ioDecode {q : Setup} {a : Addr} {v : ViaId} {r : Reg}
    (h : ioDecode q a = some (v, r)) : isTicked q v = true := by
  obtain ⟨-, hd⟩ | ⟨-, -, hcount, hd⟩ | ⟨-, -, hd⟩ := ioDecode_cases q a
  · cases hd.symm.trans h; rfl
  · cases hd.symm.trans h; exact decide_eq_true hcount
  · cases hd.symm.trans h

/-- With one entry waiting, the drain is its WRITE_REG (R233). -/
theorem drain_single_via {e : Entry} {v : ViaId} {r : Reg} (hmbox : u.mbox = [e])
    (hd : ioDecode u.setup e.addr = some (v, r)) (x : ViaId) :
    u.drain.via x = (u.setVia v ((u.via v).writeReg r e.data)).via x := by
  rw [drain_cons hmbox, applyEntry_of_mapped { u with mbox := [] } hd,
    drain_nil (setVia_mbox { u with mbox := [] } v _)]
  cases v <;> cases x <;> rfl

/-- The drain after a mapped write into an empty mailbox is the write (R113, R233). -/
theorem drain_posted_via {a : Addr} {d : Byte} {v : ViaId} {r : Reg} (hempty : s.mbox = [])
    (hd : ioDecode s.setup a = some (v, r)) (x : ViaId) :
    ({ (s.storeByte a d).enqueue a d with result := .none } : State).drain.via x =
      (s.setVia v ((s.via v).writeReg r d)).via x := by
  have hpush : pushEntry s.setup.mailboxCapacity s.mbox ⟨a, d⟩ = [⟨a, d⟩] := by
    rw [hempty, pushEntry_nil]
  refine (drain_single_via hpush hd x).trans ?_
  cases v <;> cases x <;> rfl

/-- The step of a lock-step bus cycle, by the state `u` that its bus phase leaves and a state `p` with the VIAs as
the drain then leaves them: the VIAs the setup has are as the push and one TICK leave those of `p`. -/
theorem lockstep_bus_step {w : BusWord} {rest : List Input} (hc : s.setup.check = none)
    (hl : s.setup.lockstep = true) (hi : s.inputs = .bus w m :: rest)
    (hu : exec (decodeBus w) { s with inputs := rest } = .next u) (hp : p.setup = s.setup)
    (hvia : ∀ x, u.drain.via x = p.via x) :
    ∃ t, step s = .next t ∧
      (∀ x, t.via x = if isTicked s.setup x = true then (((p.kbdStep m).via x).tick 1).2
        else (p.kbdStep m).via x) ∧
      t.irq = t.irqLevel ∧ t.mem = u.mem ∧ t.mbox = [] ∧ t.result = u.result ∧ t.ticks = s.ticks + 1 := by
  obtain ⟨-, hsetup⟩ := exec_irq_setup hu
  obtain ⟨-, hticks, -⟩ := exec_frame hu
  obtain ⟨-, -, -, -, -, -, hdrain, -⟩ := drain_frame u
  obtain ⟨hmem, -, hmbox, hticks', -, -, -, hresult, -⟩ := dispatchPhase_frame u m 1
  refine ⟨(u.dispatchPhase m 1).countTick, ?step, fun x => ?via, dispatchPhase_irq u m 1, hmem, hmbox,
    hresult, congrArg (· + 1) (hticks'.trans hticks)⟩
  case step =>
    rw [step_of_inputs hc hi, runInput_bus_of_exec hu, afterBusPhase_of_lockstep (by rw [hsetup]; exact hl)]
  case via =>
    have hphase : (u.dispatchPhase m 1).countTick.via x = (u.dispatchPhase m 1).via x := by
      cases x <;> rfl
    have hpush := kbdStep_via_congr (m := m) (hdrain.trans (hsetup.trans hp.symm)) hvia x
    rw [hphase, dispatchPhase_via, hpush, hsetup]
    rfl

end TickOrder

/-- Settles O40: the bus phase posts the write, the drain applies it, and the push and the TICKs follow. -/
theorem mappedWriteLandsBeforeItsTick : Obligations.MappedWriteLandsBeforeItsTick := by
  intro s a d w m rest v r hinv hl hi hw hc hd
  have hu := exec_busWr_of_mapped (s := { s with inputs := rest }) (d := d) hc
    (Option.isSome_iff_exists.2 ⟨_, hd⟩)
  rw [← hw] at hu
  have hp : (s.setVia v ((s.via v).writeReg r d)).setup = s.setup := setVia_setup ..
  have hdrained := drain_posted_via (s := { s with inputs := rest }) (d := d) (hinv.lockstep hl) hd
  obtain ⟨t, hstep, hvia, hirq, hmem, hmbox, -, hticks⟩ := lockstep_bus_step hinv.setup hl hi hu hp
    fun x => (hdrained x).trans (by cases v <;> cases x <;> rfl)
  have hv := (hvia v).trans (if_pos (isTicked_of_ioDecode hd))
  refine ⟨t, _, hstep, rfl, hv, fun hk => ?noKeyboard, fun x hx => ?other, hirq, ?stored, hmbox, hticks⟩
  case noKeyboard =>
    rw [hv, kbdStep_of_disabled _ m (by rw [hp]; exact hk), via_setVia_same]
  case other =>
    rw [hvia]
    split
    case isTrue => rfl
    case isFalse hx' =>
      rw [kbdStep_via_of_not_ticked (by rw [hp]; exact hinv.setup) (by rw [hp]; exact hx'),
        via_setVia_other s _ hx]
  case stored =>
    rw [hmem]
    exact Memory.read_write_same hinv.memory a d

/-- Settles O41: the bus phase is the read, the drain has nothing to apply, and the push and the TICKs follow. -/
theorem mappedReadSeesTheTickBefore : Obligations.MappedReadSeesTheTickBefore := by
  intro s a w m rest v r hinv hl hi hw hc hd
  have hu := exec_busRd_of_mapped (s := { s with inputs := rest }) hc hd
  rw [← hw] at hu
  have hp : (s.setVia v ((s.via v).readReg r).2).setup = s.setup := setVia_setup ..
  have hempty : (({ s with inputs := rest } : State).rdVia v r).mbox = [] :=
    (callReturns_mbox ..).trans (hinv.lockstep hl)
  obtain ⟨t, hstep, hvia, -, hmem, -, hresult, hticks⟩ := lockstep_bus_step hinv.setup hl hi hu hp
    fun x => (congrArg (State.via · x) (drain_nil hempty)).trans (by cases v <;> cases x <;> rfl)
  have hv := (hvia v).trans (if_pos (isTicked_of_ioDecode hd))
  refine ⟨t, hstep, ?byte, hv, fun hk => ?noKeyboard, ?stored, hticks⟩
  case byte =>
    rw [hresult]
    cases v <;> rfl
  case noKeyboard =>
    rw [hv, kbdStep_of_disabled _ m (by rw [hp]; exact hk), via_setVia_same]
  case stored => exact hmem.trans (callReturns_mem ..)

section FirstVia

/-! ### States that differ in the second VIA alone (R24) -/

/-- The states differ at most in the second VIA and in IRQ, which it drives. -/
def AgreeButVia2 (s t : State) : Prop := ∃ y b, t = { s with via2 := y, irq := b }

variable {s t : State}

/-- A bus cycle that does not read a register of the second VIA does not read the second VIA. -/
theorem exec_busRd_agree {a : Addr}
    (hread : ∀ r, ¬(classify s.pt a = .mappedIO ∧ ioDecode s.setup a = some (.via2, r)))
    (h : AgreeButVia2 s t) : AgreeButVia2 (s.busRd a) (t.busRd a) := by
  obtain ⟨y, b, rfl⟩ := h
  refine ⟨y, b, Host.Outcome.next.inj (φ := Fault) (ρ := Refusal) ?_⟩
  obtain ⟨hc, h⟩ | ⟨hc, hd, h⟩ | ⟨v, r, hc, hd, h⟩ := busRd_cases s a <;> rw [h]
  · exact exec_busRd_of_not_mappedIO (s := { s with via2 := y, irq := b }) hc
  · exact exec_busRd_of_unmapped (s := { s with via2 := y, irq := b }) hc hd
  · cases v with
    | via1 => exact exec_busRd_of_mapped (s := { s with via2 := y, irq := b }) hc hd
    | via2 => exact absurd ⟨hc, hd⟩ (hread r)

theorem busWr_of_busWrStore {u : State} {a : Addr} {d : Byte} (h : s.busWrStore a d = u) :
    s.busWr a d = { u with result := .none } := by
  rw [State.busWr, h]

theorem busWr_agree (a : Addr) (d : Byte) (h : AgreeButVia2 s t) :
    AgreeButVia2 (s.busWr a d) (t.busWr a d) := by
  obtain ⟨y, b, rfl⟩ := h
  refine ⟨y, b, Host.Outcome.next.inj (φ := Fault) (ρ := Refusal) ?_⟩
  obtain ⟨hc, h⟩ | ⟨hc, h⟩ | ⟨hc, hd, h⟩ | ⟨p, hc, hd, h⟩ := busWrStore_cases s a d <;>
    rw [busWr_of_busWrStore h]
  · exact exec_busWr_of_ram (s := { s with via2 := y, irq := b }) hc
  · exact exec_busWr_of_rom (s := { s with via2 := y, irq := b }) hc
  · exact exec_busWr_of_unmapped (s := { s with via2 := y, irq := b }) hc hd
  · exact exec_busWr_of_mapped (s := { s with via2 := y, irq := b }) hc
      (Option.isSome_iff_exists.2 ⟨p, hd⟩)

/-- A drained entry reads and writes one VIA. -/
theorem applyEntry_agree (e : Entry) (h : AgreeButVia2 s t) :
    AgreeButVia2 (s.applyEntry e) (t.applyEntry e) := by
  obtain ⟨y, b, rfl⟩ := h
  obtain hd | ⟨⟨v, r⟩, hd⟩ := Option.eq_none_or_eq_some (ioDecode s.setup e.addr)
  · rw [applyEntry_of_unmapped s hd, applyEntry_of_unmapped { s with via2 := y, irq := b } hd]
    exact ⟨y, b, rfl⟩
  · rw [applyEntry_of_mapped s hd, applyEntry_of_mapped { s with via2 := y, irq := b } hd]
    cases v with
    | via1 => exact ⟨y, b, rfl⟩
    | via2 => exact ⟨_, b, rfl⟩

theorem applyEntries_agree (q : List Entry) (h : AgreeButVia2 s t) :
    AgreeButVia2 (q.foldl State.applyEntry s) (q.foldl State.applyEntry t) := by
  induction q generalizing s t with
  | nil => exact h
  | cons e q ih => exact ih (applyEntry_agree e h)

theorem drain_agree (h : AgreeButVia2 s t) : AgreeButVia2 s.drain t.drain := by
  obtain ⟨y, b, rfl⟩ := h
  exact applyEntries_agree s.mbox ⟨y, b, rfl⟩

/-- With the keyboard off nothing carries a value from one VIA to the other in the dispatch phase. -/
theorem dispatchPhase_agree (hk : s.setup.kbdEnable = false) (m : KeyMatrix) (n : Nat)
    (h : AgreeButVia2 s t) : AgreeButVia2 (s.dispatchPhase m n) (t.dispatchPhase m n) := by
  have hdrain := drain_agree h
  obtain ⟨-, -, -, -, -, -, hsetup, -⟩ := drain_frame s
  obtain ⟨y, b, ht⟩ := hdrain
  have hks : s.drain.setup.kbdEnable = false := by rw [hsetup]; exact hk
  have hkt : t.drain.setup.kbdEnable = false := by rw [ht]; exact hks
  rw [State.dispatchPhase, State.dispatchPhase, kbdStep_of_disabled _ m hks, kbdStep_of_disabled _ m hkt, ht]
  exact ⟨_, _, rfl⟩

/-- A BUS word is one of the two bus cycles (R90). -/
theorem decodeBus_cases (w : BusWord) :
    (∃ a, decodeBus w = .busRd a) ∨ ∃ a d, decodeBus w = .busWr a d := by
  rw [decodeBus]
  split
  · exact .inl ⟨_, rfl⟩
  · exact .inr ⟨_, _, rfl⟩

/-- A bus cycle keeps the agreement, unless it reads a register of the second VIA. -/
theorem exec_decodeBus_agree {w : BusWord} {u : State} (hread : ∀ r, viaRead s w ≠ some (.via2, r))
    (h : AgreeButVia2 s t) (hu : exec (decodeBus w) s = .next u) :
    ∃ u', exec (decodeBus w) t = .next u' ∧ AgreeButVia2 u u' := by
  obtain ⟨a, hw⟩ | ⟨a, d, hw⟩ := decodeBus_cases w <;> rw [hw] at hu ⊢ <;> cases hu
  · refine ⟨_, rfl, exec_busRd_agree (fun r ⟨hc, hd⟩ => hread r ?_) h⟩
    simp only [viaRead, hw, hc, hd]
  · exact ⟨_, rfl, busWr_agree a d h⟩

end FirstVia

/-- Settles O60: the bus phase, the drain and the dispatch phase with the keyboard off keep the agreement. -/
theorem secondInstanceDoesNotReachTheFirst : Obligations.SecondInstanceDoesNotReachTheFirst := by
  intro s t y w m rest hl hk hi hread h
  obtain ⟨hc, -⟩ := step_next_cases h
  obtain ⟨u, hu, rfl⟩ := runInput_bus_next (runInput_of_step hi h)
  obtain ⟨-, hsetup⟩ := exec_irq_setup hu
  obtain ⟨u', hu', y', b', rfl⟩ := exec_decodeBus_agree (s := { s with inputs := rest }) hread
    ⟨y, s.irq, rfl⟩ hu
  have hlu : u.setup.lockstep = true := by rw [hsetup]; exact hl
  have hku : u.setup.kbdEnable = false := by rw [hsetup]; exact hk
  obtain ⟨y'', b'', hphase⟩ := dispatchPhase_agree hku m 1 ⟨y', b', rfl⟩
  have hstep : step { s with via2 := y } = .next _ :=
    (step_of_inputs (s := { s with via2 := y }) hc hi).trans (runInput_bus_of_exec hu')
  rw [afterBusPhase_of_lockstep (s := { u with via2 := y', irq := b' }) hlu, hphase] at hstep
  rw [afterBusPhase_of_lockstep hlu]
  exact ⟨_, hstep, rfl, rfl, rfl, rfl, rfl⟩

end Sys2Proof.Proofs
